-- ==== Sys2Proof/Word.lean ====
section
/-! DEFINITION. The machine's word types (spec/00_scope.md R8, R12; spec/10_state.md R20, R32, R34). -/

namespace Sys2Proof

/-- An 8-bit byte (R50). -/
abbrev Byte := BitVec 8

/-- A 32-bit string: a general register, an address, an instruction word (R5 `XLEN`, `ILEN`; R8). -/
abbrev Word := BitVec 32

/-- A 64-bit string: a double-precision operand, a multiply's product (R241, R257). -/
abbrev DWord := BitVec 64

/-- The number of a general register, 0..31 (R20). -/
abbrev Reg := BitVec 5

/-- The number of a floating-point register, 0..31 (R32). -/
abbrev FReg := BitVec 5

/-- The number of a floating-point condition flag, 0..7 (R34). -/
abbrev CcNum := BitVec 3

end Sys2Proof
end

