-- ==== Sys2Proof/Machine/Bits.lean ====
section
/-! DEFINITION. Bit-field, extension and byte-order helpers (spec/00_scope.md R6 to R9, spec/20_memory.md R51,
spec/30_encoding.md R85 to R88). -/

namespace Sys2Proof.Machine

/-- `sext_32(v)` (R9). -/
def sext32 {n : Nat} (v : BitVec n) : Word := v.signExtend 32

/-- `zext_32(v)` (R9). -/
def zext32 {n : Nat} (v : BitVec n) : Word := v.setWidth 32

/-- `SignExtImm` (R85). -/
def signExtImm (imm : BitVec 16) : Word := sext32 imm

/-- `ZeroExtImm` (R85). -/
def zeroExtImm (imm : BitVec 16) : Word := zext32 imm

/-- The immediate of `lui`, placed in the upper half: `{ imm, 16'b0 }` (R88, R140). -/
def upperImm (imm : BitVec 16) : Word := imm ++ 0#16

/-- `BranchAddr = { 14{imm[15]}, imm, 2'b0 }` (R86): the 18 bits `{ imm, 2'b0 }` sign-extended. -/
def branchAddr (imm : BitVec 16) : Word := sext32 (imm ++ 0#2)

/-- The halfword of two bytes, the byte at the lower address first, big-endian (R51, R52). -/
def halfOfBytes (b0 b1 : Byte) : BitVec 16 := b0 ++ b1

/-- The word of four bytes, the byte at the lowest address first, big-endian (R51, R52). -/
def wordOfBytes (b0 b1 b2 b3 : Byte) : Word := b0 ++ b1 ++ b2 ++ b3

/-- Byte `i` (0 the most significant) of a word, big-endian: `v[8(4-i)-1 : 8(3-i)]` (R53). -/
def wordByte (v : Word) (i : Nat) : Byte := v.extractLsb' (8 * (3 - i)) 8

/-- Byte `i` (0 the more significant) of a halfword, big-endian (R53). -/
def halfByte (v : BitVec 16) (i : Nat) : Byte := v.extractLsb' (8 * (1 - i)) 8

/-- A register number that can name a double-precision operand: an even one (R257, D34). -/
def evenReg (n : FReg) : Bool := n.toNat % 2 == 0

/-- A comparison's result: exactly 1 or 0 (R135, R145). -/
def boolWord (b : Bool) : Word := if b then 1#32 else 0#32

end Sys2Proof.Machine
end

