-- ==== Sys2Proof/Syntax.lean ====
section
/-! DEFINITION. The instructions: one constructor for each row of spec/opcode_table.json, its operand fields in the
assembler's order (spec/30_encoding.md R101). `imm` is the 16-bit immediate field, `address` the 26-bit field of a jump,
`shamt` a shift amount, `cc` a condition-flag number, `code` a software code field that the hardware ignores (R95). -/

namespace Sys2Proof

inductive Instr where
  /- Arithmetic and logical instructions (spec/40_arithmetic_logical.md) -/
  /-- `add` (R112) -/
  | add (rd rs rt : Reg)
  /-- `addi` (R113) -/
  | addi (rt rs : Reg) (imm : BitVec 16)
  /-- `addiu` (R114) -/
  | addiu (rt rs : Reg) (imm : BitVec 16)
  /-- `addu` (R115) -/
  | addu (rd rs rt : Reg)
  /-- `and` (R116) -/
  | and (rd rs rt : Reg)
  /-- `andi` (R117) -/
  | andi (rt rs : Reg) (imm : BitVec 16)
  /-- `nor` (R118) -/
  | nor (rd rs rt : Reg)
  /-- `or` (R119) -/
  | or (rd rs rt : Reg)
  /-- `ori` (R120) -/
  | ori (rt rs : Reg) (imm : BitVec 16)
  /-- `sll` (R121) -/
  | sll (rd rt : Reg) (shamt : BitVec 5)
  /-- `srl` (R122) -/
  | srl (rd rt : Reg) (shamt : BitVec 5)
  /-- `sra` (R123) -/
  | sra (rd rt : Reg) (shamt : BitVec 5)
  /-- `sub` (R124) -/
  | sub (rd rs rt : Reg)
  /-- `subu` (R125) -/
  | subu (rd rs rt : Reg)
  /-- `xor` (R126) -/
  | xor (rd rs rt : Reg)
  /-- `xori` (R127) -/
  | xori (rt rs : Reg) (imm : BitVec 16)
  /-- `sllv` (R128) -/
  | sllv (rd rt rs : Reg)
  /-- `srlv` (R129) -/
  | srlv (rd rt rs : Reg)
  /-- `srav` (R130) -/
  | srav (rd rt rs : Reg)
  /-- `movz` (R131) -/
  | movz (rd rs rt : Reg)
  /-- `movn` (R132) -/
  | movn (rd rs rt : Reg)
  /- Constant-manipulating instruction (spec/41_constant_manipulating.md) -/
  /-- `lui` (R140) -/
  | lui (rt : Reg) (imm : BitVec 16)
  /- Comparison instructions (spec/42_comparison.md) -/
  /-- `slt` (R145) -/
  | slt (rd rs rt : Reg)
  /-- `sltu` (R146) -/
  | sltu (rd rs rt : Reg)
  /-- `slti` (R147) -/
  | slti (rt rs : Reg) (imm : BitVec 16)
  /-- `sltiu` (R148) -/
  | sltiu (rt rs : Reg) (imm : BitVec 16)
  /- Branch instructions (spec/43_branch.md) -/
  /-- `bc1f` (R166) -/
  | bc1f (cc : CcNum) (imm : BitVec 16)
  /-- `bc1t` (R167) -/
  | bc1t (cc : CcNum) (imm : BitVec 16)
  /-- `beq` (R168) -/
  | beq (rs rt : Reg) (imm : BitVec 16)
  /-- `bgez` (R169) -/
  | bgez (rs : Reg) (imm : BitVec 16)
  /-- `bgezal` (R170) -/
  | bgezal (rs : Reg) (imm : BitVec 16)
  /-- `bgtz` (R171) -/
  | bgtz (rs : Reg) (imm : BitVec 16)
  /-- `blez` (R172) -/
  | blez (rs : Reg) (imm : BitVec 16)
  /-- `bltzal` (R173) -/
  | bltzal (rs : Reg) (imm : BitVec 16)
  /-- `bltz` (R174) -/
  | bltz (rs : Reg) (imm : BitVec 16)
  /-- `bne` (R175) -/
  | bne (rs rt : Reg) (imm : BitVec 16)
  /- Jump instructions (spec/44_jump.md) -/
  /-- `j` (R191) -/
  | j (address : BitVec 26)
  /-- `jal` (R192) -/
  | jal (address : BitVec 26)
  /-- `jr` (R193) -/
  | jr (rs : Reg)
  /-- `jalr` (R194) -/
  | jalr (rd rs : Reg)
  /- Trap and system instructions (spec/45_trap.md) -/
  /-- `teq` (R201) -/
  | teq (rs rt : Reg) (code : BitVec 10)
  /-- `teqi` (R202) -/
  | teqi (rs : Reg) (imm : BitVec 16)
  /-- `tne` (R203) -/
  | tne (rs rt : Reg) (code : BitVec 10)
  /-- `tnei` (R204) -/
  | tnei (rs : Reg) (imm : BitVec 16)
  /-- `tge` (R205) -/
  | tge (rs rt : Reg) (code : BitVec 10)
  /-- `tgeu` (R206) -/
  | tgeu (rs rt : Reg) (code : BitVec 10)
  /-- `tlt` (R207) -/
  | tlt (rs rt : Reg) (code : BitVec 10)
  /-- `tltu` (R208) -/
  | tltu (rs rt : Reg) (code : BitVec 10)
  /-- `syscall` (R209) -/
  | syscall (code : BitVec 20)
  /-- `break` (R210); the row `break`, whose name is a word of Lean -/
  | brk (code : BitVec 20)
  /-- `mfc0` (R211) -/
  | mfc0 (rt : Reg) (rd : BitVec 5)
  /-- `mtc0` (R212) -/
  | mtc0 (rt : Reg) (rd : BitVec 5)
  /-- `eret` (R213) -/
  | eret
  /- Load and store instructions (spec/46_load_store.md) -/
  /-- `lb` (R217) -/
  | lb (rt : Reg) (imm : BitVec 16) (rs : Reg)
  /-- `lbu` (R218) -/
  | lbu (rt : Reg) (imm : BitVec 16) (rs : Reg)
  /-- `lh` (R219) -/
  | lh (rt : Reg) (imm : BitVec 16) (rs : Reg)
  /-- `lhu` (R220) -/
  | lhu (rt : Reg) (imm : BitVec 16) (rs : Reg)
  /-- `lw` (R221) -/
  | lw (rt : Reg) (imm : BitVec 16) (rs : Reg)
  /-- `sb` (R222) -/
  | sb (rt : Reg) (imm : BitVec 16) (rs : Reg)
  /-- `sh` (R223) -/
  | sh (rt : Reg) (imm : BitVec 16) (rs : Reg)
  /-- `sw` (R224) -/
  | sw (rt : Reg) (imm : BitVec 16) (rs : Reg)
  /-- `ll` (R228) -/
  | ll (rt : Reg) (imm : BitVec 16) (rs : Reg)
  /-- `sc` (R229) -/
  | sc (rt : Reg) (imm : BitVec 16) (rs : Reg)
  /- Multiply, divide and the HI/LO registers (spec/47_multiply_divide.md) -/
  /-- `mult` (R241) -/
  | mult (rs rt : Reg)
  /-- `multu` (R242) -/
  | multu (rs rt : Reg)
  /-- `div` (R243) -/
  | div (rs rt : Reg)
  /-- `divu` (R244) -/
  | divu (rs rt : Reg)
  /-- `mfhi` (R245) -/
  | mfhi (rd : Reg)
  /-- `mflo` (R246) -/
  | mflo (rd : Reg)
  /-- `mthi` (R247) -/
  | mthi (rs : Reg)
  /-- `mtlo` (R248) -/
  | mtlo (rs : Reg)
  /- Floating-point loads and stores (spec/48_floating_point.md section 4) -/
  /-- `lwc1` (R271) -/
  | lwc1 (ft : FReg) (imm : BitVec 16) (rs : Reg)
  /-- `ldc1` (R272) -/
  | ldc1 (ft : FReg) (imm : BitVec 16) (rs : Reg)
  /-- `swc1` (R273) -/
  | swc1 (ft : FReg) (imm : BitVec 16) (rs : Reg)
  /-- `sdc1` (R274) -/
  | sdc1 (ft : FReg) (imm : BitVec 16) (rs : Reg)
  /- Floating-point instructions, single precision (spec/48_floating_point.md) -/
  /-- `add.s` (R259) -/
  | addS (fd fs ft : FReg)
  /-- `sub.s` (R261) -/
  | subS (fd fs ft : FReg)
  /-- `mul.s` (R263) -/
  | mulS (fd fs ft : FReg)
  /-- `div.s` (R265) -/
  | divS (fd fs ft : FReg)
  /-- `sqrt.s` (R275) -/
  | sqrtS (fd fs : FReg)
  /-- `abs.s` (R276) -/
  | absS (fd fs : FReg)
  /-- `mov.s` (R277) -/
  | movS (fd fs : FReg)
  /-- `neg.s` (R278) -/
  | negS (fd fs : FReg)
  /-- `round.w.s` (R279) -/
  | roundWS (fd fs : FReg)
  /-- `trunc.w.s` (R279) -/
  | truncWS (fd fs : FReg)
  /-- `ceil.w.s` (R279) -/
  | ceilWS (fd fs : FReg)
  /-- `floor.w.s` (R279) -/
  | floorWS (fd fs : FReg)
  /-- `movz.s` (R281) -/
  | movzS (fd fs : FReg) (rt : Reg)
  /-- `movn.s` (R281) -/
  | movnS (fd fs : FReg) (rt : Reg)
  /-- `cvt.d.s` (R280) -/
  | cvtDS (fd fs : FReg)
  /-- `cvt.w.s` (R280) -/
  | cvtWS (fd fs : FReg)
  /- Floating-point instructions, double precision (spec/48_floating_point.md) -/
  /-- `add.d` (R260) -/
  | addD (fd fs ft : FReg)
  /-- `sub.d` (R262) -/
  | subD (fd fs ft : FReg)
  /-- `mul.d` (R264) -/
  | mulD (fd fs ft : FReg)
  /-- `div.d` (R266) -/
  | divD (fd fs ft : FReg)
  /-- `sqrt.d` (R275) -/
  | sqrtD (fd fs : FReg)
  /-- `abs.d` (R276) -/
  | absD (fd fs : FReg)
  /-- `mov.d` (R277) -/
  | movD (fd fs : FReg)
  /-- `neg.d` (R278) -/
  | negD (fd fs : FReg)
  /-- `round.w.d` (R279) -/
  | roundWD (fd fs : FReg)
  /-- `trunc.w.d` (R279) -/
  | truncWD (fd fs : FReg)
  /-- `ceil.w.d` (R279) -/
  | ceilWD (fd fs : FReg)
  /-- `floor.w.d` (R279) -/
  | floorWD (fd fs : FReg)
  /-- `movz.d` (R281) -/
  | movzD (fd fs : FReg) (rt : Reg)
  /-- `movn.d` (R281) -/
  | movnD (fd fs : FReg) (rt : Reg)
  /-- `cvt.s.d` (R280) -/
  | cvtSD (fd fs : FReg)
  /-- `cvt.w.d` (R280) -/
  | cvtWD (fd fs : FReg)
  /- Floating-point comparisons (spec/48_floating_point.md section 3) -/
  /-- `c.f.s` (R270) -/
  | cFS (cc : CcNum) (fs ft : FReg)
  /-- `c.un.s` (R270) -/
  | cUnS (cc : CcNum) (fs ft : FReg)
  /-- `c.eq.s` (R267) -/
  | cEqS (cc : CcNum) (fs ft : FReg)
  /-- `c.ueq.s` (R270) -/
  | cUeqS (cc : CcNum) (fs ft : FReg)
  /-- `c.olt.s` (R270) -/
  | cOltS (cc : CcNum) (fs ft : FReg)
  /-- `c.ult.s` (R270) -/
  | cUltS (cc : CcNum) (fs ft : FReg)
  /-- `c.ole.s` (R270) -/
  | cOleS (cc : CcNum) (fs ft : FReg)
  /-- `c.ule.s` (R270) -/
  | cUleS (cc : CcNum) (fs ft : FReg)
  /-- `c.sf.s` (R270) -/
  | cSfS (cc : CcNum) (fs ft : FReg)
  /-- `c.ngle.s` (R270) -/
  | cNgleS (cc : CcNum) (fs ft : FReg)
  /-- `c.seq.s` (R270) -/
  | cSeqS (cc : CcNum) (fs ft : FReg)
  /-- `c.ngl.s` (R270) -/
  | cNglS (cc : CcNum) (fs ft : FReg)
  /-- `c.lt.s` (R268) -/
  | cLtS (cc : CcNum) (fs ft : FReg)
  /-- `c.nge.s` (R270) -/
  | cNgeS (cc : CcNum) (fs ft : FReg)
  /-- `c.le.s` (R269) -/
  | cLeS (cc : CcNum) (fs ft : FReg)
  /-- `c.ngt.s` (R270) -/
  | cNgtS (cc : CcNum) (fs ft : FReg)
  /-- `c.f.d` (R270) -/
  | cFD (cc : CcNum) (fs ft : FReg)
  /-- `c.un.d` (R270) -/
  | cUnD (cc : CcNum) (fs ft : FReg)
  /-- `c.eq.d` (R267) -/
  | cEqD (cc : CcNum) (fs ft : FReg)
  /-- `c.ueq.d` (R270) -/
  | cUeqD (cc : CcNum) (fs ft : FReg)
  /-- `c.olt.d` (R270) -/
  | cOltD (cc : CcNum) (fs ft : FReg)
  /-- `c.ult.d` (R270) -/
  | cUltD (cc : CcNum) (fs ft : FReg)
  /-- `c.ole.d` (R270) -/
  | cOleD (cc : CcNum) (fs ft : FReg)
  /-- `c.ule.d` (R270) -/
  | cUleD (cc : CcNum) (fs ft : FReg)
  /-- `c.sf.d` (R270) -/
  | cSfD (cc : CcNum) (fs ft : FReg)
  /-- `c.ngle.d` (R270) -/
  | cNgleD (cc : CcNum) (fs ft : FReg)
  /-- `c.seq.d` (R270) -/
  | cSeqD (cc : CcNum) (fs ft : FReg)
  /-- `c.ngl.d` (R270) -/
  | cNglD (cc : CcNum) (fs ft : FReg)
  /-- `c.lt.d` (R268) -/
  | cLtD (cc : CcNum) (fs ft : FReg)
  /-- `c.nge.d` (R270) -/
  | cNgeD (cc : CcNum) (fs ft : FReg)
  /-- `c.le.d` (R269) -/
  | cLeD (cc : CcNum) (fs ft : FReg)
  /-- `c.ngt.d` (R270) -/
  | cNgtD (cc : CcNum) (fs ft : FReg)
  /- Instructions the source names but does not define, and `sync` (spec/49_named_only.md) -/
  /-- `lwl` (R304) -/
  | lwl (rt : Reg) (imm : BitVec 16) (rs : Reg)
  /-- `lwr` (R305) -/
  | lwr (rt : Reg) (imm : BitVec 16) (rs : Reg)
  /-- `swl` (R306) -/
  | swl (rt : Reg) (imm : BitVec 16) (rs : Reg)
  /-- `swr` (R307) -/
  | swr (rt : Reg) (imm : BitVec 16) (rs : Reg)
  /-- `cache` (R310) -/
  | cache (rt : Reg) (imm : BitVec 16) (rs : Reg)
  /-- `pref` (R311) -/
  | pref (rt : Reg) (imm : BitVec 16) (rs : Reg)
  /-- `lwc2` (R308) -/
  | lwc2 (rt : Reg) (imm : BitVec 16) (rs : Reg)
  /-- `ldc2` (R308) -/
  | ldc2 (rt : Reg) (imm : BitVec 16) (rs : Reg)
  /-- `swc2` (R308) -/
  | swc2 (rt : Reg) (imm : BitVec 16) (rs : Reg)
  /-- `sdc2` (R308) -/
  | sdc2 (rt : Reg) (imm : BitVec 16) (rs : Reg)
  /-- `sync` (R303) -/
  | sync
  deriving DecidableEq, Repr

end Sys2Proof
end

