-- ==== Sys2Proof/Decode.lean ====
section
/-! DEFINITION. Decoding and encoding (spec/30_encoding.md). A word is split once into the six fields of the R format
(R81); the other formats' fields are joins of these (R82, R83, R84). Decoding selects in the order of R89 and then checks the
fields that the row fixes to zero (R95). Every word is either one row's instruction or an unlisted encoding (R98). -/

namespace Sys2Proof

/-- Why bytes are no instruction. -/
inductive DecodeError where
  /-- the word matches no row of the opcode table (R98) -/
  | unlisted (w : Word)
  /-- there are not exactly four bytes: every instruction is one 32-bit word (R80) -/
  | notOneWord
  deriving DecidableEq, Repr

/-- The fields of an instruction word in the R format (R81). In the FR format `rs` is `fmt`, `rt` is `ft`, `rd` is `fs` and
`shamt` is `fd` (R84). -/
structure Fields where
  op : BitVec 6
  rs : BitVec 5
  rt : BitVec 5
  rd : BitVec 5
  shamt : BitVec 5
  funct : BitVec 6
  deriving DecidableEq, Repr

/-- Split a word into its fields (R12, R81). -/
def Fields.ofWord (w : Word) : Fields where
  op := w.extractLsb' 26 6
  rs := w.extractLsb' 21 5
  rt := w.extractLsb' 16 5
  rd := w.extractLsb' 11 5
  shamt := w.extractLsb' 6 5
  funct := w.extractLsb' 0 6

/-- Join the fields of a word (R81). -/
def Fields.toWord (f : Fields) : Word := f.op ++ f.rs ++ f.rt ++ f.rd ++ f.shamt ++ f.funct

/-- `imm` = word[15:0] (R82). -/
def Fields.imm (f : Fields) : BitVec 16 := f.rd ++ f.shamt ++ f.funct

/-- `address` = word[25:0] (R83). -/
def Fields.address (f : Fields) : BitVec 26 := f.rs ++ f.rt ++ f.rd ++ f.shamt ++ f.funct

/-- The 20-bit code field word[25:6] of `syscall` and `break` (R95). -/
def Fields.code20 (f : Fields) : BitVec 20 := f.rs ++ f.rt ++ f.rd ++ f.shamt

/-- The 10-bit code field word[15:6] of the register traps (R95). -/
def Fields.code10 (f : Fields) : BitVec 10 := f.rd ++ f.shamt

/-- `cc` = word[20:18] of `bc1f` and `bc1t` (R88). -/
def Fields.ccBranch (f : Fields) : CcNum := f.rt.extractLsb' 2 3

/-- `cc` = word[10:8] of a floating-point compare (R88). -/
def Fields.ccCompare (f : Fields) : CcNum := f.shamt.extractLsb' 2 3

/-- `opcode` = 0, selected by `funct` (R91). -/
def decodeSpecial (f : Fields) : Option Instr :=
  match f.funct with
  | 0x00#6 => if f.rs = 0#5 then some (.sll f.rd f.rt f.shamt) else none
  | 0x02#6 => if f.rs = 0#5 then some (.srl f.rd f.rt f.shamt) else none
  | 0x03#6 => if f.rs = 0#5 then some (.sra f.rd f.rt f.shamt) else none
  | 0x04#6 => if f.shamt = 0#5 then some (.sllv f.rd f.rt f.rs) else none
  | 0x06#6 => if f.shamt = 0#5 then some (.srlv f.rd f.rt f.rs) else none
  | 0x07#6 => if f.shamt = 0#5 then some (.srav f.rd f.rt f.rs) else none
  | 0x08#6 => if f.rt = 0#5 ∧ f.rd = 0#5 ∧ f.shamt = 0#5 then some (.jr f.rs) else none
  | 0x09#6 => if f.rt = 0#5 ∧ f.shamt = 0#5 then some (.jalr f.rd f.rs) else none
  | 0x0a#6 => if f.shamt = 0#5 then some (.movz f.rd f.rs f.rt) else none
  | 0x0b#6 => if f.shamt = 0#5 then some (.movn f.rd f.rs f.rt) else none
  | 0x0c#6 => some (.syscall f.code20)
  | 0x0d#6 => some (.brk f.code20)
  | 0x0f#6 => if f.rs = 0#5 ∧ f.rt = 0#5 ∧ f.rd = 0#5 ∧ f.shamt = 0#5 then some .sync else none
  | 0x10#6 => if f.rs = 0#5 ∧ f.rt = 0#5 ∧ f.shamt = 0#5 then some (.mfhi f.rd) else none
  | 0x11#6 => if f.rt = 0#5 ∧ f.rd = 0#5 ∧ f.shamt = 0#5 then some (.mthi f.rs) else none
  | 0x12#6 => if f.rs = 0#5 ∧ f.rt = 0#5 ∧ f.shamt = 0#5 then some (.mflo f.rd) else none
  | 0x13#6 => if f.rt = 0#5 ∧ f.rd = 0#5 ∧ f.shamt = 0#5 then some (.mtlo f.rs) else none
  | 0x18#6 => if f.rd = 0#5 ∧ f.shamt = 0#5 then some (.mult f.rs f.rt) else none
  | 0x19#6 => if f.rd = 0#5 ∧ f.shamt = 0#5 then some (.multu f.rs f.rt) else none
  | 0x1a#6 => if f.rd = 0#5 ∧ f.shamt = 0#5 then some (.div f.rs f.rt) else none
  | 0x1b#6 => if f.rd = 0#5 ∧ f.shamt = 0#5 then some (.divu f.rs f.rt) else none
  | 0x20#6 => if f.shamt = 0#5 then some (.add f.rd f.rs f.rt) else none
  | 0x21#6 => if f.shamt = 0#5 then some (.addu f.rd f.rs f.rt) else none
  | 0x22#6 => if f.shamt = 0#5 then some (.sub f.rd f.rs f.rt) else none
  | 0x23#6 => if f.shamt = 0#5 then some (.subu f.rd f.rs f.rt) else none
  | 0x24#6 => if f.shamt = 0#5 then some (.and f.rd f.rs f.rt) else none
  | 0x25#6 => if f.shamt = 0#5 then some (.or f.rd f.rs f.rt) else none
  | 0x26#6 => if f.shamt = 0#5 then some (.xor f.rd f.rs f.rt) else none
  | 0x27#6 => if f.shamt = 0#5 then some (.nor f.rd f.rs f.rt) else none
  | 0x2a#6 => if f.shamt = 0#5 then some (.slt f.rd f.rs f.rt) else none
  | 0x2b#6 => if f.shamt = 0#5 then some (.sltu f.rd f.rs f.rt) else none
  | 0x30#6 => some (.tge f.rs f.rt f.code10)
  | 0x31#6 => some (.tgeu f.rs f.rt f.code10)
  | 0x32#6 => some (.tlt f.rs f.rt f.code10)
  | 0x33#6 => some (.tltu f.rs f.rt f.code10)
  | 0x34#6 => some (.teq f.rs f.rt f.code10)
  | 0x36#6 => some (.tne f.rs f.rt f.code10)
  | _ => none

/-- `opcode` = 1, selected by the `rt` field (R92). -/
def decodeRegimm (f : Fields) : Option Instr :=
  match f.rt with
  | 0x00#5 => some (.bltz f.rs f.imm)
  | 0x01#5 => some (.bgez f.rs f.imm)
  | 0x0c#5 => some (.teqi f.rs f.imm)
  | 0x0e#5 => some (.tnei f.rs f.imm)
  | 0x10#5 => some (.bltzal f.rs f.imm)
  | 0x11#5 => some (.bgezal f.rs f.imm)
  | _ => none

/-- `opcode` = 0x10, coprocessor 0, selected by `rs` (R94). -/
def decodeCop0 (f : Fields) : Option Instr :=
  match f.rs with
  | 0x00#5 => if f.shamt = 0#5 ∧ f.funct = 0#6 then some (.mfc0 f.rt f.rd) else none
  | 0x04#5 => if f.shamt = 0#5 ∧ f.funct = 0#6 then some (.mtc0 f.rt f.rd) else none
  | 0x10#5 => if f.rt = 0#5 ∧ f.rd = 0#5 ∧ f.shamt = 0#5 ∧ f.funct = 0x18#6 then some .eret else none
  | _ => none

/-- Coprocessor 1, single precision, `fmt` = 0x10, selected by `funct` (R93). -/
def decodeSingle (f : Fields) : Option Instr :=
  match f.funct with
  | 0x00#6 => some (.addS f.shamt f.rd f.rt)
  | 0x01#6 => some (.subS f.shamt f.rd f.rt)
  | 0x02#6 => some (.mulS f.shamt f.rd f.rt)
  | 0x03#6 => some (.divS f.shamt f.rd f.rt)
  | 0x04#6 => if f.rt = 0#5 then some (.sqrtS f.shamt f.rd) else none
  | 0x05#6 => if f.rt = 0#5 then some (.absS f.shamt f.rd) else none
  | 0x06#6 => if f.rt = 0#5 then some (.movS f.shamt f.rd) else none
  | 0x07#6 => if f.rt = 0#5 then some (.negS f.shamt f.rd) else none
  | 0x0c#6 => if f.rt = 0#5 then some (.roundWS f.shamt f.rd) else none
  | 0x0d#6 => if f.rt = 0#5 then some (.truncWS f.shamt f.rd) else none
  | 0x0e#6 => if f.rt = 0#5 then some (.ceilWS f.shamt f.rd) else none
  | 0x0f#6 => if f.rt = 0#5 then some (.floorWS f.shamt f.rd) else none
  | 0x12#6 => some (.movzS f.shamt f.rd f.rt)
  | 0x13#6 => some (.movnS f.shamt f.rd f.rt)
  | 0x21#6 => if f.rt = 0#5 then some (.cvtDS f.shamt f.rd) else none
  | 0x24#6 => if f.rt = 0#5 then some (.cvtWS f.shamt f.rd) else none
  | 0x30#6 => if f.shamt.extractLsb' 0 2 = 0#2 then some (.cFS f.ccCompare f.rd f.rt) else none
  | 0x31#6 => if f.shamt.extractLsb' 0 2 = 0#2 then some (.cUnS f.ccCompare f.rd f.rt) else none
  | 0x32#6 => if f.shamt.extractLsb' 0 2 = 0#2 then some (.cEqS f.ccCompare f.rd f.rt) else none
  | 0x33#6 => if f.shamt.extractLsb' 0 2 = 0#2 then some (.cUeqS f.ccCompare f.rd f.rt) else none
  | 0x34#6 => if f.shamt.extractLsb' 0 2 = 0#2 then some (.cOltS f.ccCompare f.rd f.rt) else none
  | 0x35#6 => if f.shamt.extractLsb' 0 2 = 0#2 then some (.cUltS f.ccCompare f.rd f.rt) else none
  | 0x36#6 => if f.shamt.extractLsb' 0 2 = 0#2 then some (.cOleS f.ccCompare f.rd f.rt) else none
  | 0x37#6 => if f.shamt.extractLsb' 0 2 = 0#2 then some (.cUleS f.ccCompare f.rd f.rt) else none
  | 0x38#6 => if f.shamt.extractLsb' 0 2 = 0#2 then some (.cSfS f.ccCompare f.rd f.rt) else none
  | 0x39#6 => if f.shamt.extractLsb' 0 2 = 0#2 then some (.cNgleS f.ccCompare f.rd f.rt) else none
  | 0x3a#6 => if f.shamt.extractLsb' 0 2 = 0#2 then some (.cSeqS f.ccCompare f.rd f.rt) else none
  | 0x3b#6 => if f.shamt.extractLsb' 0 2 = 0#2 then some (.cNglS f.ccCompare f.rd f.rt) else none
  | 0x3c#6 => if f.shamt.extractLsb' 0 2 = 0#2 then some (.cLtS f.ccCompare f.rd f.rt) else none
  | 0x3d#6 => if f.shamt.extractLsb' 0 2 = 0#2 then some (.cNgeS f.ccCompare f.rd f.rt) else none
  | 0x3e#6 => if f.shamt.extractLsb' 0 2 = 0#2 then some (.cLeS f.ccCompare f.rd f.rt) else none
  | 0x3f#6 => if f.shamt.extractLsb' 0 2 = 0#2 then some (.cNgtS f.ccCompare f.rd f.rt) else none
  | _ => none

/-- Coprocessor 1, double precision, `fmt` = 0x11, selected by `funct` (R93). -/
def decodeDouble (f : Fields) : Option Instr :=
  match f.funct with
  | 0x00#6 => some (.addD f.shamt f.rd f.rt)
  | 0x01#6 => some (.subD f.shamt f.rd f.rt)
  | 0x02#6 => some (.mulD f.shamt f.rd f.rt)
  | 0x03#6 => some (.divD f.shamt f.rd f.rt)
  | 0x04#6 => if f.rt = 0#5 then some (.sqrtD f.shamt f.rd) else none
  | 0x05#6 => if f.rt = 0#5 then some (.absD f.shamt f.rd) else none
  | 0x06#6 => if f.rt = 0#5 then some (.movD f.shamt f.rd) else none
  | 0x07#6 => if f.rt = 0#5 then some (.negD f.shamt f.rd) else none
  | 0x0c#6 => if f.rt = 0#5 then some (.roundWD f.shamt f.rd) else none
  | 0x0d#6 => if f.rt = 0#5 then some (.truncWD f.shamt f.rd) else none
  | 0x0e#6 => if f.rt = 0#5 then some (.ceilWD f.shamt f.rd) else none
  | 0x0f#6 => if f.rt = 0#5 then some (.floorWD f.shamt f.rd) else none
  | 0x12#6 => some (.movzD f.shamt f.rd f.rt)
  | 0x13#6 => some (.movnD f.shamt f.rd f.rt)
  | 0x20#6 => if f.rt = 0#5 then some (.cvtSD f.shamt f.rd) else none
  | 0x24#6 => if f.rt = 0#5 then some (.cvtWD f.shamt f.rd) else none
  | 0x30#6 => if f.shamt.extractLsb' 0 2 = 0#2 then some (.cFD f.ccCompare f.rd f.rt) else none
  | 0x31#6 => if f.shamt.extractLsb' 0 2 = 0#2 then some (.cUnD f.ccCompare f.rd f.rt) else none
  | 0x32#6 => if f.shamt.extractLsb' 0 2 = 0#2 then some (.cEqD f.ccCompare f.rd f.rt) else none
  | 0x33#6 => if f.shamt.extractLsb' 0 2 = 0#2 then some (.cUeqD f.ccCompare f.rd f.rt) else none
  | 0x34#6 => if f.shamt.extractLsb' 0 2 = 0#2 then some (.cOltD f.ccCompare f.rd f.rt) else none
  | 0x35#6 => if f.shamt.extractLsb' 0 2 = 0#2 then some (.cUltD f.ccCompare f.rd f.rt) else none
  | 0x36#6 => if f.shamt.extractLsb' 0 2 = 0#2 then some (.cOleD f.ccCompare f.rd f.rt) else none
  | 0x37#6 => if f.shamt.extractLsb' 0 2 = 0#2 then some (.cUleD f.ccCompare f.rd f.rt) else none
  | 0x38#6 => if f.shamt.extractLsb' 0 2 = 0#2 then some (.cSfD f.ccCompare f.rd f.rt) else none
  | 0x39#6 => if f.shamt.extractLsb' 0 2 = 0#2 then some (.cNgleD f.ccCompare f.rd f.rt) else none
  | 0x3a#6 => if f.shamt.extractLsb' 0 2 = 0#2 then some (.cSeqD f.ccCompare f.rd f.rt) else none
  | 0x3b#6 => if f.shamt.extractLsb' 0 2 = 0#2 then some (.cNglD f.ccCompare f.rd f.rt) else none
  | 0x3c#6 => if f.shamt.extractLsb' 0 2 = 0#2 then some (.cLtD f.ccCompare f.rd f.rt) else none
  | 0x3d#6 => if f.shamt.extractLsb' 0 2 = 0#2 then some (.cNgeD f.ccCompare f.rd f.rt) else none
  | 0x3e#6 => if f.shamt.extractLsb' 0 2 = 0#2 then some (.cLeD f.ccCompare f.rd f.rt) else none
  | 0x3f#6 => if f.shamt.extractLsb' 0 2 = 0#2 then some (.cNgtD f.ccCompare f.rd f.rt) else none
  | _ => none

/-- Coprocessor 1, `fmt` = 8: `bc1f` if word[16] = 0, `bc1t` if word[16] = 1; word[17] must be 0 (R93). -/
def decodeBc1 (f : Fields) : Option Instr :=
  match f.rt.extractLsb' 0 2 with
  | 0#2 => some (.bc1f f.ccBranch f.imm)
  | 1#2 => some (.bc1t f.ccBranch f.imm)
  | _ => none

/-- `opcode` = 0x11, coprocessor 1, selected by `fmt` = word[25:21] (R93). -/
def decodeCop1 (f : Fields) : Option Instr :=
  match f.rs with
  | 0x08#5 => decodeBc1 f
  | 0x10#5 => decodeSingle f
  | 0x11#5 => decodeDouble f
  | _ => none

/-- The primary opcode map, selected by `opcode` = word[31:26] (R89, R90). -/
def decodeFields (f : Fields) : Option Instr :=
  match f.op with
  | 0x00#6 => decodeSpecial f
  | 0x01#6 => decodeRegimm f
  | 0x02#6 => some (.j f.address)
  | 0x03#6 => some (.jal f.address)
  | 0x04#6 => some (.beq f.rs f.rt f.imm)
  | 0x05#6 => some (.bne f.rs f.rt f.imm)
  | 0x06#6 => if f.rt = 0#5 then some (.blez f.rs f.imm) else none
  | 0x07#6 => if f.rt = 0#5 then some (.bgtz f.rs f.imm) else none
  | 0x08#6 => some (.addi f.rt f.rs f.imm)
  | 0x09#6 => some (.addiu f.rt f.rs f.imm)
  | 0x0a#6 => some (.slti f.rt f.rs f.imm)
  | 0x0b#6 => some (.sltiu f.rt f.rs f.imm)
  | 0x0c#6 => some (.andi f.rt f.rs f.imm)
  | 0x0d#6 => some (.ori f.rt f.rs f.imm)
  | 0x0e#6 => some (.xori f.rt f.rs f.imm)
  | 0x0f#6 => if f.rs = 0#5 then some (.lui f.rt f.imm) else none
  | 0x10#6 => decodeCop0 f
  | 0x11#6 => decodeCop1 f
  | 0x20#6 => some (.lb f.rt f.imm f.rs)
  | 0x21#6 => some (.lh f.rt f.imm f.rs)
  | 0x22#6 => some (.lwl f.rt f.imm f.rs)
  | 0x23#6 => some (.lw f.rt f.imm f.rs)
  | 0x24#6 => some (.lbu f.rt f.imm f.rs)
  | 0x25#6 => some (.lhu f.rt f.imm f.rs)
  | 0x26#6 => some (.lwr f.rt f.imm f.rs)
  | 0x28#6 => some (.sb f.rt f.imm f.rs)
  | 0x29#6 => some (.sh f.rt f.imm f.rs)
  | 0x2a#6 => some (.swl f.rt f.imm f.rs)
  | 0x2b#6 => some (.sw f.rt f.imm f.rs)
  | 0x2e#6 => some (.swr f.rt f.imm f.rs)
  | 0x2f#6 => some (.cache f.rt f.imm f.rs)
  | 0x30#6 => some (.ll f.rt f.imm f.rs)
  | 0x31#6 => some (.lwc1 f.rt f.imm f.rs)
  | 0x32#6 => some (.lwc2 f.rt f.imm f.rs)
  | 0x33#6 => some (.pref f.rt f.imm f.rs)
  | 0x35#6 => some (.ldc1 f.rt f.imm f.rs)
  | 0x36#6 => some (.ldc2 f.rt f.imm f.rs)
  | 0x38#6 => some (.sc f.rt f.imm f.rs)
  | 0x39#6 => some (.swc1 f.rt f.imm f.rs)
  | 0x3a#6 => some (.swc2 f.rt f.imm f.rs)
  | 0x3d#6 => some (.sdc1 f.rt f.imm f.rs)
  | 0x3e#6 => some (.sdc2 f.rt f.imm f.rs)
  | _ => none

/-- Decode a word: total, and a word that matches no row is named as unlisted (R89, R98). -/
def decode (w : Word) : Except DecodeError Instr :=
  match decodeFields (Fields.ofWord w) with
  | some i => .ok i
  | none => .error (.unlisted w)

/-- Decode the bytes of one instruction as memory holds them, the byte at the lowest address first (R51, R80). -/
def decodeBytes : List Byte → Except DecodeError Instr
  | [b0, b1, b2, b3] => decode (Machine.wordOfBytes b0 b1 b2 b3)
  | _ => .error .notOneWord

/-! ### The encoder -/

/-- An R-format word with `opcode` = 0 (R81, R91). -/
def Fields.special (rs rt rd shamt : BitVec 5) (funct : BitVec 6) : Fields := ⟨0x00#6, rs, rt, rd, shamt, funct⟩

/-- An I-format word (R82). -/
def Fields.iType (op : BitVec 6) (rs rt : BitVec 5) (imm : BitVec 16) : Fields :=
  ⟨op, rs, rt, imm.extractLsb' 11 5, imm.extractLsb' 6 5, imm.extractLsb' 0 6⟩

/-- A J-format word (R83). -/
def Fields.jType (op : BitVec 6) (address : BitVec 26) : Fields :=
  ⟨op, address.extractLsb' 21 5, address.extractLsb' 16 5, address.extractLsb' 11 5, address.extractLsb' 6 5,
    address.extractLsb' 0 6⟩

/-- `syscall` or `break`, with its 20-bit code field (R95). -/
def Fields.codeType (code : BitVec 20) (funct : BitVec 6) : Fields :=
  ⟨0x00#6, code.extractLsb' 15 5, code.extractLsb' 10 5, code.extractLsb' 5 5, code.extractLsb' 0 5, funct⟩

/-- A register trap, with its 10-bit code field (R95). -/
def Fields.trapType (rs rt : BitVec 5) (code : BitVec 10) (funct : BitVec 6) : Fields :=
  ⟨0x00#6, rs, rt, code.extractLsb' 5 5, code.extractLsb' 0 5, funct⟩

/-- An FR-format word (R84). -/
def Fields.frType (fmt ft fs fd : BitVec 5) (funct : BitVec 6) : Fields := ⟨0x11#6, fmt, ft, fs, fd, funct⟩

/-- A floating-point compare, with `cc` = word[10:8] and word[7:6] = 0 (R88, R267). -/
def Fields.compareType (fmt ft fs : BitVec 5) (cc : CcNum) (funct : BitVec 6) : Fields :=
  ⟨0x11#6, fmt, ft, fs, cc ++ 0#2, funct⟩

/-- `bc1f`/`bc1t`, with `cc` = word[20:18], word[17] = 0 and word[16] = `tf` (R88, R166). -/
def Fields.bc1Type (cc : CcNum) (tf : BitVec 1) (imm : BitVec 16) : Fields :=
  Fields.iType 0x11#6 0x08#5 (cc ++ 0#1 ++ tf) imm

/-- The fields of an instruction's encoding (R90 to R94 and each instruction's rule). -/
def encodeFields : Instr → Fields
  | .add rd rs rt => Fields.special rs rt rd 0x00#5 0x20#6
  | .addi rt rs imm => Fields.iType 0x08#6 rs rt imm
  | .addiu rt rs imm => Fields.iType 0x09#6 rs rt imm
  | .addu rd rs rt => Fields.special rs rt rd 0x00#5 0x21#6
  | .and rd rs rt => Fields.special rs rt rd 0x00#5 0x24#6
  | .andi rt rs imm => Fields.iType 0x0c#6 rs rt imm
  | .nor rd rs rt => Fields.special rs rt rd 0x00#5 0x27#6
  | .or rd rs rt => Fields.special rs rt rd 0x00#5 0x25#6
  | .ori rt rs imm => Fields.iType 0x0d#6 rs rt imm
  | .sll rd rt shamt => Fields.special 0x00#5 rt rd shamt 0x00#6
  | .srl rd rt shamt => Fields.special 0x00#5 rt rd shamt 0x02#6
  | .sra rd rt shamt => Fields.special 0x00#5 rt rd shamt 0x03#6
  | .sub rd rs rt => Fields.special rs rt rd 0x00#5 0x22#6
  | .subu rd rs rt => Fields.special rs rt rd 0x00#5 0x23#6
  | .xor rd rs rt => Fields.special rs rt rd 0x00#5 0x26#6
  | .xori rt rs imm => Fields.iType 0x0e#6 rs rt imm
  | .sllv rd rt rs => Fields.special rs rt rd 0x00#5 0x04#6
  | .srlv rd rt rs => Fields.special rs rt rd 0x00#5 0x06#6
  | .srav rd rt rs => Fields.special rs rt rd 0x00#5 0x07#6
  | .movz rd rs rt => Fields.special rs rt rd 0x00#5 0x0a#6
  | .movn rd rs rt => Fields.special rs rt rd 0x00#5 0x0b#6
  | .lui rt imm => Fields.iType 0x0f#6 0x00#5 rt imm
  | .slt rd rs rt => Fields.special rs rt rd 0x00#5 0x2a#6
  | .sltu rd rs rt => Fields.special rs rt rd 0x00#5 0x2b#6
  | .slti rt rs imm => Fields.iType 0x0a#6 rs rt imm
  | .sltiu rt rs imm => Fields.iType 0x0b#6 rs rt imm
  | .bc1f cc imm => Fields.bc1Type cc 0#1 imm
  | .bc1t cc imm => Fields.bc1Type cc 1#1 imm
  | .beq rs rt imm => Fields.iType 0x04#6 rs rt imm
  | .bgez rs imm => Fields.iType 0x01#6 rs 0x01#5 imm
  | .bgezal rs imm => Fields.iType 0x01#6 rs 0x11#5 imm
  | .bgtz rs imm => Fields.iType 0x07#6 rs 0x00#5 imm
  | .blez rs imm => Fields.iType 0x06#6 rs 0x00#5 imm
  | .bltzal rs imm => Fields.iType 0x01#6 rs 0x10#5 imm
  | .bltz rs imm => Fields.iType 0x01#6 rs 0x00#5 imm
  | .bne rs rt imm => Fields.iType 0x05#6 rs rt imm
  | .j address => Fields.jType 0x02#6 address
  | .jal address => Fields.jType 0x03#6 address
  | .jr rs => Fields.special rs 0x00#5 0x00#5 0x00#5 0x08#6
  | .jalr rd rs => Fields.special rs 0x00#5 rd 0x00#5 0x09#6
  | .teq rs rt code => Fields.trapType rs rt code 0x34#6
  | .teqi rs imm => Fields.iType 0x01#6 rs 0x0c#5 imm
  | .tne rs rt code => Fields.trapType rs rt code 0x36#6
  | .tnei rs imm => Fields.iType 0x01#6 rs 0x0e#5 imm
  | .tge rs rt code => Fields.trapType rs rt code 0x30#6
  | .tgeu rs rt code => Fields.trapType rs rt code 0x31#6
  | .tlt rs rt code => Fields.trapType rs rt code 0x32#6
  | .tltu rs rt code => Fields.trapType rs rt code 0x33#6
  | .syscall code => Fields.codeType code 0x0c#6
  | .brk code => Fields.codeType code 0x0d#6
  | .mfc0 rt rd => ⟨0x10#6, 0x00#5, rt, rd, 0x00#5, 0x00#6⟩
  | .mtc0 rt rd => ⟨0x10#6, 0x04#5, rt, rd, 0x00#5, 0x00#6⟩
  | .eret => ⟨0x10#6, 0x10#5, 0x00#5, 0x00#5, 0x00#5, 0x18#6⟩
  | .lb rt imm rs => Fields.iType 0x20#6 rs rt imm
  | .lbu rt imm rs => Fields.iType 0x24#6 rs rt imm
  | .lh rt imm rs => Fields.iType 0x21#6 rs rt imm
  | .lhu rt imm rs => Fields.iType 0x25#6 rs rt imm
  | .lw rt imm rs => Fields.iType 0x23#6 rs rt imm
  | .sb rt imm rs => Fields.iType 0x28#6 rs rt imm
  | .sh rt imm rs => Fields.iType 0x29#6 rs rt imm
  | .sw rt imm rs => Fields.iType 0x2b#6 rs rt imm
  | .ll rt imm rs => Fields.iType 0x30#6 rs rt imm
  | .sc rt imm rs => Fields.iType 0x38#6 rs rt imm
  | .mult rs rt => Fields.special rs rt 0x00#5 0x00#5 0x18#6
  | .multu rs rt => Fields.special rs rt 0x00#5 0x00#5 0x19#6
  | .div rs rt => Fields.special rs rt 0x00#5 0x00#5 0x1a#6
  | .divu rs rt => Fields.special rs rt 0x00#5 0x00#5 0x1b#6
  | .mfhi rd => Fields.special 0x00#5 0x00#5 rd 0x00#5 0x10#6
  | .mflo rd => Fields.special 0x00#5 0x00#5 rd 0x00#5 0x12#6
  | .mthi rs => Fields.special rs 0x00#5 0x00#5 0x00#5 0x11#6
  | .mtlo rs => Fields.special rs 0x00#5 0x00#5 0x00#5 0x13#6
  | .lwc1 ft imm rs => Fields.iType 0x31#6 rs ft imm
  | .ldc1 ft imm rs => Fields.iType 0x35#6 rs ft imm
  | .swc1 ft imm rs => Fields.iType 0x39#6 rs ft imm
  | .sdc1 ft imm rs => Fields.iType 0x3d#6 rs ft imm
  | .addS fd fs ft => Fields.frType 0x10#5 ft fs fd 0x00#6
  | .subS fd fs ft => Fields.frType 0x10#5 ft fs fd 0x01#6
  | .mulS fd fs ft => Fields.frType 0x10#5 ft fs fd 0x02#6
  | .divS fd fs ft => Fields.frType 0x10#5 ft fs fd 0x03#6
  | .sqrtS fd fs => Fields.frType 0x10#5 0x00#5 fs fd 0x04#6
  | .absS fd fs => Fields.frType 0x10#5 0x00#5 fs fd 0x05#6
  | .movS fd fs => Fields.frType 0x10#5 0x00#5 fs fd 0x06#6
  | .negS fd fs => Fields.frType 0x10#5 0x00#5 fs fd 0x07#6
  | .roundWS fd fs => Fields.frType 0x10#5 0x00#5 fs fd 0x0c#6
  | .truncWS fd fs => Fields.frType 0x10#5 0x00#5 fs fd 0x0d#6
  | .ceilWS fd fs => Fields.frType 0x10#5 0x00#5 fs fd 0x0e#6
  | .floorWS fd fs => Fields.frType 0x10#5 0x00#5 fs fd 0x0f#6
  | .movzS fd fs rt => Fields.frType 0x10#5 rt fs fd 0x12#6
  | .movnS fd fs rt => Fields.frType 0x10#5 rt fs fd 0x13#6
  | .cvtDS fd fs => Fields.frType 0x10#5 0x00#5 fs fd 0x21#6
  | .cvtWS fd fs => Fields.frType 0x10#5 0x00#5 fs fd 0x24#6
  | .addD fd fs ft => Fields.frType 0x11#5 ft fs fd 0x00#6
  | .subD fd fs ft => Fields.frType 0x11#5 ft fs fd 0x01#6
  | .mulD fd fs ft => Fields.frType 0x11#5 ft fs fd 0x02#6
  | .divD fd fs ft => Fields.frType 0x11#5 ft fs fd 0x03#6
  | .sqrtD fd fs => Fields.frType 0x11#5 0x00#5 fs fd 0x04#6
  | .absD fd fs => Fields.frType 0x11#5 0x00#5 fs fd 0x05#6
  | .movD fd fs => Fields.frType 0x11#5 0x00#5 fs fd 0x06#6
  | .negD fd fs => Fields.frType 0x11#5 0x00#5 fs fd 0x07#6
  | .roundWD fd fs => Fields.frType 0x11#5 0x00#5 fs fd 0x0c#6
  | .truncWD fd fs => Fields.frType 0x11#5 0x00#5 fs fd 0x0d#6
  | .ceilWD fd fs => Fields.frType 0x11#5 0x00#5 fs fd 0x0e#6
  | .floorWD fd fs => Fields.frType 0x11#5 0x00#5 fs fd 0x0f#6
  | .movzD fd fs rt => Fields.frType 0x11#5 rt fs fd 0x12#6
  | .movnD fd fs rt => Fields.frType 0x11#5 rt fs fd 0x13#6
  | .cvtSD fd fs => Fields.frType 0x11#5 0x00#5 fs fd 0x20#6
  | .cvtWD fd fs => Fields.frType 0x11#5 0x00#5 fs fd 0x24#6
  | .cFS cc fs ft => Fields.compareType 0x10#5 ft fs cc 0x30#6
  | .cUnS cc fs ft => Fields.compareType 0x10#5 ft fs cc 0x31#6
  | .cEqS cc fs ft => Fields.compareType 0x10#5 ft fs cc 0x32#6
  | .cUeqS cc fs ft => Fields.compareType 0x10#5 ft fs cc 0x33#6
  | .cOltS cc fs ft => Fields.compareType 0x10#5 ft fs cc 0x34#6
  | .cUltS cc fs ft => Fields.compareType 0x10#5 ft fs cc 0x35#6
  | .cOleS cc fs ft => Fields.compareType 0x10#5 ft fs cc 0x36#6
  | .cUleS cc fs ft => Fields.compareType 0x10#5 ft fs cc 0x37#6
  | .cSfS cc fs ft => Fields.compareType 0x10#5 ft fs cc 0x38#6
  | .cNgleS cc fs ft => Fields.compareType 0x10#5 ft fs cc 0x39#6
  | .cSeqS cc fs ft => Fields.compareType 0x10#5 ft fs cc 0x3a#6
  | .cNglS cc fs ft => Fields.compareType 0x10#5 ft fs cc 0x3b#6
  | .cLtS cc fs ft => Fields.compareType 0x10#5 ft fs cc 0x3c#6
  | .cNgeS cc fs ft => Fields.compareType 0x10#5 ft fs cc 0x3d#6
  | .cLeS cc fs ft => Fields.compareType 0x10#5 ft fs cc 0x3e#6
  | .cNgtS cc fs ft => Fields.compareType 0x10#5 ft fs cc 0x3f#6
  | .cFD cc fs ft => Fields.compareType 0x11#5 ft fs cc 0x30#6
  | .cUnD cc fs ft => Fields.compareType 0x11#5 ft fs cc 0x31#6
  | .cEqD cc fs ft => Fields.compareType 0x11#5 ft fs cc 0x32#6
  | .cUeqD cc fs ft => Fields.compareType 0x11#5 ft fs cc 0x33#6
  | .cOltD cc fs ft => Fields.compareType 0x11#5 ft fs cc 0x34#6
  | .cUltD cc fs ft => Fields.compareType 0x11#5 ft fs cc 0x35#6
  | .cOleD cc fs ft => Fields.compareType 0x11#5 ft fs cc 0x36#6
  | .cUleD cc fs ft => Fields.compareType 0x11#5 ft fs cc 0x37#6
  | .cSfD cc fs ft => Fields.compareType 0x11#5 ft fs cc 0x38#6
  | .cNgleD cc fs ft => Fields.compareType 0x11#5 ft fs cc 0x39#6
  | .cSeqD cc fs ft => Fields.compareType 0x11#5 ft fs cc 0x3a#6
  | .cNglD cc fs ft => Fields.compareType 0x11#5 ft fs cc 0x3b#6
  | .cLtD cc fs ft => Fields.compareType 0x11#5 ft fs cc 0x3c#6
  | .cNgeD cc fs ft => Fields.compareType 0x11#5 ft fs cc 0x3d#6
  | .cLeD cc fs ft => Fields.compareType 0x11#5 ft fs cc 0x3e#6
  | .cNgtD cc fs ft => Fields.compareType 0x11#5 ft fs cc 0x3f#6
  | .lwl rt imm rs => Fields.iType 0x22#6 rs rt imm
  | .lwr rt imm rs => Fields.iType 0x26#6 rs rt imm
  | .swl rt imm rs => Fields.iType 0x2a#6 rs rt imm
  | .swr rt imm rs => Fields.iType 0x2e#6 rs rt imm
  | .cache rt imm rs => Fields.iType 0x2f#6 rs rt imm
  | .pref rt imm rs => Fields.iType 0x33#6 rs rt imm
  | .lwc2 rt imm rs => Fields.iType 0x32#6 rs rt imm
  | .ldc2 rt imm rs => Fields.iType 0x36#6 rs rt imm
  | .swc2 rt imm rs => Fields.iType 0x3a#6 rs rt imm
  | .sdc2 rt imm rs => Fields.iType 0x3e#6 rs rt imm
  | .sync => Fields.special 0x00#5 0x00#5 0x00#5 0x00#5 0x0f#6

/-- The word of an instruction. -/
def encode (i : Instr) : Word := (encodeFields i).toWord

/-- The instruction in an instruction's bits numbered as spec/opcode_table.json numbers them: bit 0 the least significant bit
of the word, any bit from `nbits` up zero. The word is laid out as its four bytes in memory, big-endian, and decoded. -/
def decodeTableWord (nbits w : Nat) : Option Instr :=
  let word : Word := BitVec.ofNat 32 (w % 2 ^ nbits)
  (decodeBytes [Machine.wordByte word 0, Machine.wordByte word 1, Machine.wordByte word 2, Machine.wordByte word 3]).toOption

end Sys2Proof
end

