-- ==== Sys2Proof/Config.lean ====
section
/-! DEFINITION. What an implementation of this hardware fixes (spec/00_scope.md R5, spec/70_reset_and_hazards.md R374)
and the free values of the model (R10 `draw`, R258 `FP_NUMERICS`).

The OPEN parameters that are plain data are gathered in `Params`; a `State` carries one `Params`, no step changes it, so a
statement about every state is a statement about every value of every parameter (log entry 3). `FP_NUMERICS` is a record of
functions, and State is plain data, so its functions are opaque constants here (log entry 9). -/

namespace Sys2Proof

/-- A span of backed byte addresses `base ≤ a < base + size`, one entry of `MEM_MAP` (R5, R50, R58). -/
structure MemSpan where
  base : Nat
  size : Nat
  deriving DecidableEq, Repr

/-- `UNLISTED_ENCODING`: what a word that matches no row of the opcode table does (R5, R98). -/
inductive UnlistedPolicy where
  /-- raise Reserved Instruction, code 10 (the default) -/
  | ri
  /-- refuse (the strict value) -/
  | refuse
  deriving DecidableEq, Repr

/-- `FPR_PAIR_ORDER`: which register of an even/odd pair holds the more significant word of a double (R5, C9). -/
inductive PairOrder where
  /-- `f[n]` is the more significant word, as the card writes it (this hardware's value) -/
  | evenHigh
  /-- `f[n+1]` is the more significant word -/
  | evenLow
  deriving DecidableEq, Repr

/-- The parameters of R5 and R374 that a run fixes once, before its first step (R373 item 1). -/
structure Params where
  /-- `EXC_VECTOR`, OPEN (R5, R330). -/
  excVector : Word
  /-- `MEM_MAP`, OPEN: the backed byte addresses (R5, R50, R58). -/
  memMap : List MemSpan
  /-- `USER_SEGMENT_CHECK`, OPEN (R5, R63). -/
  userSegmentCheck : Bool
  /-- `UNLISTED_ENCODING` (R5, R98). -/
  unlisted : UnlistedPolicy
  /-- `HAS_FPU` (R5, R256). -/
  hasFpu : Bool
  /-- `FPR_PAIR_ORDER` (R5, R257, C9). -/
  pairOrder : PairOrder
  /-- `SC_MAY_FAIL` (R229, R374). -/
  scMayFail : Bool
  /-- `SYSCALL_IS_HOST_CALL` (R209, R374). -/
  syscallIsHostCall : Bool
  /-- R311's option: `pref` may be taken as a no-operation, as the model's own assumption (log entry 21). -/
  prefIsNoOp : Bool
  deriving DecidableEq, Repr

/-- The parameters at the values R5 and R374 give or suggest. `EXC_VECTOR` is OPEN: its value here is the suggested one
(DESIGN CHOICE, log entry 3). -/
def Params.default : Params where
  excVector := 0x80000180#32
  memMap := [⟨0, 2 ^ 32⟩]
  userSegmentCheck := false
  unlisted := .ri
  hasFpu := true
  pairOrder := .evenHigh
  scMayFail := false
  syscallIsHostCall := false
  prefIsNoOp := false

/-- What a function of `FP_NUMERICS` returns: a result, or the token `FPE` (R258). -/
inductive FpResult (α : Type) where
  | value (v : α)
  | fpe
  deriving DecidableEq, Repr, Inhabited

namespace Config

/-- `RESET_PC` is OPEN (R49, R370); this is the address the spec's own examples use. DESIGN CHOICE, log entry 2. -/
def resetPc : Word := 0x00400000#32

/-! ### Free values: `draw` (R10). Applied to the counter `State.draws`, so that two draws are never the same constant
(spec/93_implementation_defined.md section 3). Log entry 8. -/

/-- `draw(32 bits)`: `div`/`divu` by zero (R243, R244), `mfc0` of an undescribed register number (R42, R211). -/
opaque drawWord : Nat → Word

/-- `draw({true, false})`: the success of an `sc` when `SC_MAY_FAIL` (R229). -/
opaque drawBit : Nat → Bool

/-! ### Free values: `FP_NUMERICS` (R258), outside the laws 1 to 3 that Machine/FpNumerics.lean imposes. Log entry 9. -/

opaque addS : Word → Word → FpResult Word
opaque subS : Word → Word → FpResult Word
opaque mulS : Word → Word → FpResult Word
opaque divS : Word → Word → FpResult Word
opaque addD : DWord → DWord → FpResult DWord
opaque subD : DWord → DWord → FpResult DWord
opaque mulD : DWord → DWord → FpResult DWord
opaque divD : DWord → DWord → FpResult DWord
opaque sqrtS : Word → FpResult Word
opaque sqrtD : DWord → FpResult DWord
opaque absS : Word → FpResult Word
opaque absD : DWord → FpResult DWord
opaque negS : Word → FpResult Word
opaque negD : DWord → FpResult DWord
opaque cmpS : BitVec 4 → Word → Word → FpResult Bool
opaque cmpD : BitVec 4 → DWord → DWord → FpResult Bool
opaque cvtSD : DWord → FpResult Word
opaque cvtDS : Word → FpResult DWord
opaque cvtWS : Word → FpResult Word
opaque cvtWD : DWord → FpResult Word
opaque roundWS : Word → FpResult Word
opaque roundWD : DWord → FpResult Word
opaque truncWS : Word → FpResult Word
opaque truncWD : DWord → FpResult Word
opaque ceilWS : Word → FpResult Word
opaque ceilWD : DWord → FpResult Word
opaque floorWS : Word → FpResult Word
opaque floorWD : DWord → FpResult Word

end Config

end Sys2Proof
end

