-- ==== Sys2Proof/Machine/State.lean ====
section
/-! DEFINITION. The state of the machine (spec/10_state.md), as plain data; the exceptions it can take
(spec/60_exceptions.md R321); the reasons a step can stop; and the state after reset (R49, R370). -/

namespace Sys2Proof.Machine

/-! ### Memory -/

/-- Memory as (address, byte) pairs in canonical form (`Memory.wf`). -/
abbrev Memory := List Host.Cell

/-- What an address that is not listed reads as. DESIGN CHOICE, unsafe: R49 leaves the initial contents of memory to the host
(log entry 4). -/
def Memory.unlisted : Byte := 0x00#8

/-- The canonical form: addresses strictly rising and within the 2^32 bytes of R47, and no entry equal to what an unlisted
address reads as, so that equal memories are equal lists. -/
abbrev Memory.wf (m : Memory) : Prop :=
  m.Pairwise (fun c d => c.1 < d.1) ∧ ∀ c ∈ m, c.1 < 2 ^ 32 ∧ c.2 ≠ Memory.unlisted

/-! ### The coprocessor-0 registers that have fields -/

/-- `Status` (R38). Its undrawn bits read 0 and ignore writes, so only the drawn fields are held (D12). -/
structure Status where
  /-- `IM`, bits 15:8, Interrupt Mask -/
  im : BitVec 8
  /-- `UM`, bit 4, User Mode -/
  um : Bool
  /-- `EL`, bit 1, Exception Level -/
  el : Bool
  /-- `IE`, bit 0, Interrupt Enable -/
  ie : Bool
  deriving DecidableEq, Repr

/-- `Cause` (R37), the fields that are held. `IP`, bits 15:8, is the level of the `IRQ` lines at every instant (R340), so it
is read from `State.irq`; the undrawn bits read 0 (D12). -/
structure Cause where
  /-- `BD`, bit 31, Branch Delay -/
  bd : Bool
  /-- `ExcCode`, bits 6:2, Exception Code -/
  excCode : BitVec 5
  deriving DecidableEq, Repr

/-! ### The state -/

/-- Everything the spec gives the machine. -/
structure State where
  /-- `x[0]` .. `x[31]` (R20); slot 0 is never read: `x[0]` reads 0 (R21) -/
  gpr : Vector Word 32
  /-- the address of the instruction being executed (R25) -/
  pc : Word
  /-- the address of the instruction after it (R26) -/
  npc : Word
  /-- the instruction at `pc` is in a delay slot (R26) -/
  bd : Bool
  /-- `HI` (R31) -/
  hi : Word
  /-- `LO` (R31) -/
  lo : Word
  /-- `f[0]` .. `f[31]` (R32) -/
  fpr : Vector Word 32
  /-- `cc[0]` .. `cc[7]` (R34) -/
  cc : Vector Bool 8
  /-- coprocessor-0 register 12 (R38) -/
  status : Status
  /-- coprocessor-0 register 13 (R37) -/
  cause : Cause
  /-- coprocessor-0 register 14 (R40) -/
  epc : Word
  /-- coprocessor-0 register 8 (R41) -/
  badVAddr : Word
  /-- `LLbit` (R45) -/
  llBit : Bool
  /-- `LLaddr` (R45) -/
  llAddr : Word
  /-- memory (R47, R50) -/
  mem : Memory
  /-- the input `IRQ` (R340): the levels of the eight lines, the present step's first and one entry for each step after it;
  past its end no line is asserted, the default of R5 (log entry 5) -/
  irq : List (BitVec 8)
  /-- the parameters of the run (R5, R374); no step writes them (log entry 3) -/
  params : Params
  /-- the MODEL's own counter: how many free values have been drawn (log entry 8) -/
  draws : Nat
  deriving DecidableEq, Repr

/-! ### Exceptions -/

/-- The exceptions of R321, by the spec's identifiers. An address is carried where `BadVAddr` receives it (R330). -/
inductive Exception where
  /-- code 0, Int: an enabled `IRQ` line -/
  | interrupt
  /-- code 4, AdEL: Address Error on a load or an instruction fetch -/
  | addressErrorLoad (addr : Word)
  /-- code 5, AdES: Address Error on a store -/
  | addressErrorStore (addr : Word)
  /-- code 6, IBE: Bus Error on instruction fetch -/
  | busErrorFetch
  /-- code 7, DBE: Bus Error on a load or store -/
  | busErrorData
  /-- code 8, Sys -/
  | syscall
  /-- code 9, Bp -/
  | breakpoint
  /-- code 10, RI -/
  | reservedInstruction
  /-- code 11, CpU -/
  | coprocessorUnimplemented
  /-- code 12, Ov -/
  | overflow
  /-- code 13, Tr -/
  | trap
  /-- code 15, FPE -/
  | floatingPointException
  deriving DecidableEq, Repr

/-! ### Stops -/

/-- The reasons the machine stops with a fault: none. Every exception of the spec is taken, and "Nothing in this spec is
`stuck`" (spec/93_implementation_defined.md section 1; log entry 6). -/
inductive Fault where
  deriving DecidableEq, Repr

/-- The reasons a step is refused: each is a `refuse` of the spec (R10), so each is safe: the hardware may go on, the model
claims nothing. -/
inductive Refusal where
  /-- Raised by `exec` alone, for an instruction of the table that has no meaning yet. Safe. -/
  | notModelled (mnemonic : String)
  /-- Raised by `lwl`, `lwr`, `swl`, `swr`: D0 names them and the spec gives them no meaning (R300, R304 to R307). Safe. -/
  | unalignedPieceUndefined
  /-- Raised by `lwc2`, `ldc2`, `swc2`, `sdc2`: no coprocessor 2 is described (R300, R308). Safe. -/
  | coprocessor2Undefined
  /-- Raised by `cache`: no cache is described (R300, R310). Safe. -/
  | cacheUndefined
  /-- Raised by `pref` unless the parameter `prefIsNoOp` takes R311's option (R300, R311). Safe. -/
  | prefetchUndefined
  /-- Raised by every branch and jump, and by `eret`, in a delay slot (R30, R188, R190, R213). Safe. -/
  | transferInDelaySlot
  /-- Raised by `bgezal` and `bltzal` with `rs` = 31 and by `jalr` with `rd` = `rs` (R170, R173, R194). Safe. -/
  | linkClash
  /-- Raised by an instruction that names an odd register as a double-precision operand (R257). Safe. -/
  | oddDouble
  /-- Raised by a word that matches no row, under `UNLISTED_ENCODING = refuse` (R98). Safe. -/
  | unlistedEncoding (w : Word)
  /-- Raised by `syscall` under `SYSCALL_IS_HOST_CALL`: the host defines the call's effect, not the spec (R209). Safe. -/
  | hostCall
  deriving DecidableEq, Repr

/-! ### Reset -/

/-- The state after reset (R49, R370). `pc` is `RESET_PC`; kernel mode, interrupts off; no link. Every register for which R49
says "unspecified" holds 0 here: DESIGN CHOICE, unsafe, log entry 1. Memory is as the host leaves it: nothing listed. -/
def State.reset : State where
  gpr := Vector.replicate 32 0#32
  pc := Config.resetPc
  npc := Config.resetPc + 4#32
  bd := false
  hi := 0#32
  lo := 0#32
  fpr := Vector.replicate 32 0#32
  cc := Vector.replicate 8 false
  status := { im := 0#8, um := false, el := false, ie := false }
  cause := { bd := false, excCode := 0#5 }
  epc := 0#32
  badVAddr := 0#32
  llBit := false
  llAddr := 0#32
  mem := []
  irq := []
  params := Params.default
  draws := 0

end Sys2Proof.Machine
end

