-- ==== Sys2Proof/Machine/Ops.lean ====
section
/-! DEFINITION. The named operations over registers, memory and the program counter; the checks of an access; taking an
exception (spec/60_exceptions.md R330) and returning from one (spec/45_trap.md R213). -/

namespace Sys2Proof.Machine

/-- The outcome of an instruction or of a step. -/
abbrev Result := Host.Outcome State Fault Refusal

/-! ### General registers (R20, R21) -/

/-- `x[r]`; `x[0]` reads 0 (R21). -/
def State.readX (s : State) (r : Reg) : Word := if r = 0#5 then 0#32 else s.gpr[r.toNat]'r.isLt

/-- `x[r] <- v`; a write to `x[0]` is discarded (R21). -/
def State.writeX (s : State) (r : Reg) (v : Word) : State :=
  if r = 0#5 then s else { s with gpr := s.gpr.set r.toNat v r.isLt }

/-! ### Floating-point registers and flags (R32, R34, R257) -/

/-- `f[n]` (R32). -/
def State.readF (s : State) (n : FReg) : Word := s.fpr[n.toNat]'n.isLt

/-- `f[n] <- v` (R32). -/
def State.writeF (s : State) (n : FReg) (v : Word) : State := { s with fpr := s.fpr.set n.toNat v n.isLt }

/-- `D(n)` for an even `n` (R257): `{ f[n], f[n+1] }` under `FPR_PAIR_ORDER = even_high`, the halves exchanged under
`even_low` (R5, C9; log entry 17). -/
def State.readD (s : State) (n : FReg) : DWord :=
  match s.params.pairOrder with
  | .evenHigh => s.readF n ++ s.readF (n + 1#5)
  | .evenLow => s.readF (n + 1#5) ++ s.readF n

/-- `D(n) <- v` for an even `n` (R257). -/
def State.writeD (s : State) (n : FReg) (v : DWord) : State :=
  match s.params.pairOrder with
  | .evenHigh => (s.writeF n (v.extractLsb' 32 32)).writeF (n + 1#5) (v.extractLsb' 0 32)
  | .evenLow => (s.writeF n (v.extractLsb' 0 32)).writeF (n + 1#5) (v.extractLsb' 32 32)

/-- `cc[n]` (R34). -/
def State.readCc (s : State) (n : CcNum) : Bool := s.cc[n.toNat]'n.isLt

/-- `cc[n] <- b` (R34). -/
def State.writeCc (s : State) (n : CcNum) (b : Bool) : State := { s with cc := s.cc.set n.toNat b n.isLt }

/-! ### Memory (R50 to R54) -/

/-- The byte at an address. -/
def Memory.read : Memory → Nat → Byte
  | [], _ => Memory.unlisted
  | (k, v) :: m, a => if a = k then v else Memory.read m a

/-- Put a listed byte in its place by address. -/
def Memory.insert : Memory → Nat → Byte → Memory
  | [], a, b => [(a, b)]
  | (k, v) :: m, a, b => if a < k then (a, b) :: (k, v) :: m else (k, v) :: Memory.insert m a b

/-- Change the byte at an address; writing what an unlisted address reads as leaves the address unlisted. -/
def Memory.write (m : Memory) (a : Nat) (b : Byte) : Memory :=
  let rest := m.filter (fun c => c.1 != a)
  if b = Memory.unlisted then rest else Memory.insert rest a b

/-- `mem[a]`, `MemRead(a, 1)` (R50, R52). -/
def State.readByte (s : State) (a : Word) : Byte := s.mem.read a.toNat

/-- `MemRead(a, 2)` (R52). -/
def State.readHalf (s : State) (a : Word) : BitVec 16 := halfOfBytes (s.readByte a) (s.readByte (a + 1#32))

/-- `MemRead(a, 4)` (R52). -/
def State.readWord (s : State) (a : Word) : Word :=
  wordOfBytes (s.readByte a) (s.readByte (a + 1#32)) (s.readByte (a + 2#32)) (s.readByte (a + 3#32))

/-- `MemWrite(a, 1, v)` (R53). -/
def State.writeByte (s : State) (a : Word) (v : Byte) : State := { s with mem := s.mem.write a.toNat v }

/-- `MemWrite(a, 2, v)` (R53): the more significant byte at the lower address. -/
def State.writeHalf (s : State) (a : Word) (v : BitVec 16) : State :=
  (s.writeByte a (halfByte v 0)).writeByte (a + 1#32) (halfByte v 1)

/-- `MemWrite(a, 4, v)` (R53): the most significant byte at the lowest address. -/
def State.writeWord (s : State) (a : Word) (v : Word) : State :=
  (((s.writeByte a (wordByte v 0)).writeByte (a + 1#32) (wordByte v 1)).writeByte (a + 2#32) (wordByte v 2)).writeByte
    (a + 3#32) (wordByte v 3)

/-! ### The coprocessor-0 registers as words (R37, R38, R42) -/

/-- `Status` as `mfc0` reads it: undrawn bits 0 (R38). -/
def Status.toWord (st : Status) : Word :=
  0#16 ++ st.im ++ 0#3 ++ BitVec.ofBool st.um ++ 0#2 ++ BitVec.ofBool st.el ++ BitVec.ofBool st.ie

/-- `Status` as `mtc0` writes it: undrawn bits of `v` are dropped (R38, R212). -/
def Status.ofWord (v : Word) : Status where
  im := v.extractLsb' 8 8
  um := v.getLsbD 4
  el := v.getLsbD 1
  ie := v.getLsbD 0

/-- `Cause` as `mfc0` reads it, with the pending-interrupt field `IP` (R37). -/
def Cause.toWord (c : Cause) (ip : BitVec 8) : Word :=
  BitVec.ofBool c.bd ++ 0#15 ++ ip ++ 0#1 ++ c.excCode ++ 0#2

/-- `Cause.IP`: the level of the `IRQ` lines now (R340). -/
def State.pending (s : State) : BitVec 8 := s.irq.headD 0#8

/-! ### Modes and interrupts (R340, R350) -/

/-- User mode exactly when `UM` = 1 and `EL` = 0; kernel mode otherwise (R350). -/
def State.userMode (s : State) : Bool := s.status.um && !s.status.el

/-- An interrupt is takeable (R340): `IE` = 1, `EL` = 0 and a line both pending and unmasked. -/
def State.interruptTakeable (s : State) : Bool :=
  s.status.ie && !s.status.el && (s.pending &&& s.status.im) != 0#8

/-- One step of time passes: the next levels of the `IRQ` lines stand (R341, R384). -/
def State.tick (s : State) : State := { s with irq := s.irq.tail }

/-! ### Taking an exception and returning from one -/

/-- The number written to `Cause.ExcCode` (R321). -/
def Exception.code : Exception → BitVec 5
  | .interrupt => 0#5
  | .addressErrorLoad _ => 4#5
  | .addressErrorStore _ => 5#5
  | .busErrorFetch => 6#5
  | .busErrorData => 7#5
  | .syscall => 8#5
  | .breakpoint => 9#5
  | .reservedInstruction => 10#5
  | .coprocessorUnimplemented => 11#5
  | .overflow => 12#5
  | .trap => 13#5
  | .floatingPointException => 15#5

/-- The address that `BadVAddr` receives: codes 4 and 5 only (R330). -/
def Exception.badAddr : Exception → Option Word
  | .addressErrorLoad a => some a
  | .addressErrorStore a => some a
  | .interrupt => none
  | .busErrorFetch => none
  | .busErrorData => none
  | .syscall => none
  | .breakpoint => none
  | .reservedInstruction => none
  | .coprocessorUnimplemented => none
  | .overflow => none
  | .trap => none
  | .floatingPointException => none

/-- Exception entry (R330; nested, R337). Nothing but the fields written here changes. -/
def State.raise (s : State) (e : Exception) : State :=
  { s with
    epc := if s.status.el then s.epc else if s.bd then s.pc - 4#32 else s.pc
    cause := { bd := if s.status.el then s.cause.bd else s.bd, excCode := e.code }
    badVAddr := e.badAddr.getD s.badVAddr
    status := { s.status with el := true }
    llBit := false
    pc := s.params.excVector
    npc := s.params.excVector + 4#32
    bd := false }

/-- Exception return, in kernel mode (R213): `EL` and the link cleared, execution continues at `EPC` with no delay slot. -/
def State.exceptionReturn (s : State) : State :=
  { s with
    status := { s.status with el := false }
    llBit := false
    pc := s.epc
    npc := s.epc + 4#32
    bd := false }

/-! ### The program counter (R27) -/

/-- After an ordinary instruction (R27). -/
def State.advance (s : State) : State := { s with pc := s.npc, npc := s.npc + 4#32, bd := false }

/-- After a branch or jump (R27, R162): the instruction in the delay slot is next; after it, the target when `taken`. -/
def State.transfer (s : State) (taken : Bool) (target : Word) : State :=
  { s with pc := s.npc, npc := if taken then target else s.npc + 4#32, bd := true }

/-! ### The checks of an access (R55 to R58, R63, R225) -/

/-- A load or a store: which Address Error it raises (R55). -/
inductive Access where
  | load
  | store
  deriving DecidableEq, Repr

/-- The Address Error of an access (R55). -/
def Access.addressError : Access → Word → Exception
  | .load, a => .addressErrorLoad a
  | .store, a => .addressErrorStore a

/-- `USER_SEGMENT_CHECK` bars the address: the check is on, the mode is user, bit 31 is set (R63). -/
def State.segmentBarred (s : State) (a : Word) : Bool := s.params.userSegmentCheck && s.userMode && a.getLsbD 31

/-- `MEM_MAP` backs every one of the `n` bytes at `a` (R58). -/
def State.backed (s : State) (a : Word) (n : Nat) : Bool :=
  (List.range n).all fun i =>
    s.params.memMap.any fun r => decide (r.base ≤ (a + BitVec.ofNat 32 i).toNat) &&
      decide ((a + BitVec.ofNat 32 i).toNat < r.base + r.size)

/-- Steps 2 and 3 of R225: alignment to `n` bytes, then the user segment. -/
def State.addressFault (s : State) (k : Access) (n : Nat) (a : Word) : Option Exception :=
  if a.toNat % n ≠ 0 then some (k.addressError a)
  else if s.segmentBarred a then some (k.addressError a)
  else none

/-- Steps 2 to 4 of R225: alignment, user segment, then `MEM_MAP`. -/
def State.accessFault (s : State) (k : Access) (n : Nat) (a : Word) : Option Exception :=
  match s.addressFault k n a with
  | some e => some e
  | none => if s.backed a n then none else some .busErrorData

/-! ### Free values (R10 `draw`) -/

/-- One more free value has been drawn. -/
def State.drawn (s : State) : State := { s with draws := s.draws + 1 }

/-! ### What the families share -/

/-- Write `x[r]` and go on: an ordinary instruction whose result is one general register (R110). -/
def State.putX (s : State) (r : Reg) (v : Word) : State := (s.writeX r v).advance

/-- Raise the exception when there is one, else go on as `k` says: an instruction that raises makes none of its own writes
(R331). -/
def State.orRaise (s : State) (e : Option Exception) (k : State) : State :=
  match e with
  | some e => s.raise e
  | none => k

end Sys2Proof.Machine
end

