-- ==== Sys2Proof/Machine/Flags.lean ====
section
/-! DEFINITION. The conditions instructions compute: signed overflow (R111), the integer comparisons (R145, R146) and the
sixteen floating-point compare conditions (R270). There are no integer condition codes (R35). -/

namespace Sys2Proof.Machine

/-- An exact integer lies outside the 32-bit two's-complement range (R111). -/
def outOfRange (e : Int) : Bool := decide (e < -2 ^ 31) || decide (e > 2 ^ 31 - 1)

/-- `add`, `addi` overflow: the exact sum is out of range (R111). -/
def addOverflows (a b : Word) : Bool := outOfRange (a.toInt + b.toInt)

/-- `sub` overflows: the exact difference is out of range (R111). -/
def subOverflows (a b : Word) : Bool := outOfRange (a.toInt - b.toInt)

/-- `s(a) < s(b)` (R8, R145). -/
def signedLt (a b : Word) : Bool := decide (a.toInt < b.toInt)

/-- `u(a) < u(b)` (R8, R146). -/
def unsignedLt (a b : Word) : Bool := decide (a.toNat < b.toNat)

/-- A floating-point compare condition (R270): `cond` bit 2 with less, bit 1 with equal, bit 0 with unordered. -/
def condHolds (cond : BitVec 4) (less equal unordered : Bool) : Bool :=
  (cond.getLsbD 2 && less) || (cond.getLsbD 1 && equal) || (cond.getLsbD 0 && unordered)

end Sys2Proof.Machine
end

