-- ==== Sys2Proof/Machine/Operands.lean ====
section
/-! DEFINITION. The operand forms: the effective address of a load or store (R216), the targets of branches and jumps (R87,
R161), the link address (R23, C12), a shift amount (R121, R128). -/

namespace Sys2Proof.Machine

/-- The effective address `x[rs] + sext_32(imm)`, modulo 2^32 (R216). -/
def State.effectiveAddr (s : State) (rs : Reg) (imm : BitVec 16) : Word := s.readX rs + signExtImm imm

/-- The target of a branch: `pc + 4 + BranchAddr`, modulo 2^32 (R161). -/
def State.branchTarget (s : State) (imm : BitVec 16) : Word := s.pc + 4#32 + branchAddr imm

/-- `JumpAddr = { (pc+4)[31:28], address, 2'b0 }` (R87). -/
def State.jumpTarget (s : State) (address : BitVec 26) : Word :=
  (s.pc + 4#32).extractLsb' 28 4 ++ address ++ 0#2

/-- The link address, the address after the delay slot: `pc + 8`, modulo 2^32 (R192, C12). -/
def State.linkAddr (s : State) : Word := s.pc + 8#32

/-- The amount of a variable shift: `x[rs][4:0]` (R128, D32). -/
def State.shiftAmount (s : State) (rs : Reg) : Nat := ((s.readX rs).extractLsb' 0 5).toNat

end Sys2Proof.Machine
end

