-- ==== Sys2Proof/Machine/Arithmetic.lean ====
section
/-! DEFINITION. The arithmetic and logical instructions (spec/40_arithmetic_logical.md R110 to R132). -/

namespace Sys2Proof.Machine

/-- `add` (R112): Overflow leaves `rd` unchanged, also for `rd` = 0 (R110, R111). -/
def execAdd (rd rs rt : Reg) (s : State) : Result :=
  .next (s.orRaise (if addOverflows (s.readX rs) (s.readX rt) then some .overflow else none)
    (s.putX rd (s.readX rs + s.readX rt)))

/-- `addi` (R113). -/
def execAddi (rt rs : Reg) (imm : BitVec 16) (s : State) : Result :=
  .next (s.orRaise (if addOverflows (s.readX rs) (signExtImm imm) then some .overflow else none)
    (s.putX rt (s.readX rs + signExtImm imm)))

/-- `addiu` (R114): the immediate is sign-extended; never Overflow. -/
def execAddiu (rt rs : Reg) (imm : BitVec 16) (s : State) : Result :=
  .next (s.putX rt (s.readX rs + signExtImm imm))

/-- `addu` (R115). -/
def execAddu (rd rs rt : Reg) (s : State) : Result :=
  .next (s.putX rd (s.readX rs + s.readX rt))

/-- `and` (R116). -/
def execAnd (rd rs rt : Reg) (s : State) : Result :=
  .next (s.putX rd (s.readX rs &&& s.readX rt))

/-- `andi` (R117). -/
def execAndi (rt rs : Reg) (imm : BitVec 16) (s : State) : Result :=
  .next (s.putX rt (s.readX rs &&& zeroExtImm imm))

/-- `nor` (R118). -/
def execNor (rd rs rt : Reg) (s : State) : Result :=
  .next (s.putX rd (~~~(s.readX rs ||| s.readX rt)))

/-- `or` (R119). -/
def execOr (rd rs rt : Reg) (s : State) : Result :=
  .next (s.putX rd (s.readX rs ||| s.readX rt))

/-- `ori` (R120). -/
def execOri (rt rs : Reg) (imm : BitVec 16) (s : State) : Result :=
  .next (s.putX rt (s.readX rs ||| zeroExtImm imm))

/-- `sll` (R121). -/
def execSll (rd rt : Reg) (shamt : BitVec 5) (s : State) : Result :=
  .next (s.putX rd (s.readX rt <<< shamt.toNat))

/-- `srl` (R122). -/
def execSrl (rd rt : Reg) (shamt : BitVec 5) (s : State) : Result :=
  .next (s.putX rd (s.readX rt >>> shamt.toNat))

/-- `sra` (R123): the sign bit is copied into the vacated bits. -/
def execSra (rd rt : Reg) (shamt : BitVec 5) (s : State) : Result :=
  .next (s.putX rd ((s.readX rt).sshiftRight shamt.toNat))

/-- `sub` (R124): Overflow leaves `rd` unchanged (R111). -/
def execSub (rd rs rt : Reg) (s : State) : Result :=
  .next (s.orRaise (if subOverflows (s.readX rs) (s.readX rt) then some .overflow else none)
    (s.putX rd (s.readX rs - s.readX rt)))

/-- `subu` (R125). -/
def execSubu (rd rs rt : Reg) (s : State) : Result :=
  .next (s.putX rd (s.readX rs - s.readX rt))

/-- `xor` (R126). -/
def execXor (rd rs rt : Reg) (s : State) : Result :=
  .next (s.putX rd (s.readX rs ^^^ s.readX rt))

/-- `xori` (R127). -/
def execXori (rt rs : Reg) (imm : BitVec 16) (s : State) : Result :=
  .next (s.putX rt (s.readX rs ^^^ zeroExtImm imm))

/-- `sllv` (R128): only `x[rs][4:0]` counts. -/
def execSllv (rd rt rs : Reg) (s : State) : Result :=
  .next (s.putX rd (s.readX rt <<< s.shiftAmount rs))

/-- `srlv` (R129). -/
def execSrlv (rd rt rs : Reg) (s : State) : Result :=
  .next (s.putX rd (s.readX rt >>> s.shiftAmount rs))

/-- `srav` (R130). -/
def execSrav (rd rt rs : Reg) (s : State) : Result :=
  .next (s.putX rd ((s.readX rt).sshiftRight (s.shiftAmount rs)))

/-- `movz` (R131). -/
def execMovz (rd rs rt : Reg) (s : State) : Result :=
  .next (if s.readX rt = 0#32 then s.putX rd (s.readX rs) else s.advance)

/-- `movn` (R132). -/
def execMovn (rd rs rt : Reg) (s : State) : Result :=
  .next (if s.readX rt ≠ 0#32 then s.putX rd (s.readX rs) else s.advance)

end Sys2Proof.Machine
end

