-- ==== Sys2Proof/Machine/Branch.lean ====
section
/-! DEFINITION. The branch instructions (spec/43_branch.md R160 to R175, R188). -/

namespace Sys2Proof.Machine

/-- A branch: refused in a delay slot (R30, R188), else delayed, taken or not (R162). -/
def State.branch (s : State) (taken : Bool) (imm : BitVec 16) : Result :=
  if s.bd then .refused .transferInDelaySlot else .next (s.transfer taken (s.branchTarget imm))

/-- A branch that links: refused in a delay slot and for `rs` = 31 (R170, R173, D28); the link is written taken or not, from
values read before it. -/
def State.branchLink (s : State) (rs : Reg) (taken : Bool) (imm : BitVec 16) : Result :=
  if s.bd then .refused .transferInDelaySlot
  else if rs = 31#5 then .refused .linkClash
  else .next ((s.writeX 31#5 s.linkAddr).transfer taken (s.branchTarget imm))

/-- A branch on a floating-point flag is a coprocessor-1 word: with no floating-point unit it raises Coprocessor Unimplemented
before any other check (R166, R256; log entry 12). -/
def State.branchFp (s : State) (taken : Bool) (imm : BitVec 16) : Result :=
  if s.params.hasFpu then s.branch taken imm else .next (s.raise .coprocessorUnimplemented)

/-- `bc1f` (R166). -/
def execBc1f (cc : CcNum) (imm : BitVec 16) (s : State) : Result :=
  s.branchFp (!s.readCc cc) imm

/-- `bc1t` (R167). -/
def execBc1t (cc : CcNum) (imm : BitVec 16) (s : State) : Result :=
  s.branchFp (s.readCc cc) imm

/-- `beq` (R168). -/
def execBeq (rs rt : Reg) (imm : BitVec 16) (s : State) : Result :=
  s.branch (s.readX rs == s.readX rt) imm

/-- `bgez` (R169). -/
def execBgez (rs : Reg) (imm : BitVec 16) (s : State) : Result :=
  s.branch (decide ((s.readX rs).toInt ≥ 0)) imm

/-- `bgezal` (R170). -/
def execBgezal (rs : Reg) (imm : BitVec 16) (s : State) : Result :=
  s.branchLink rs (decide ((s.readX rs).toInt ≥ 0)) imm

/-- `bgtz` (R171). -/
def execBgtz (rs : Reg) (imm : BitVec 16) (s : State) : Result :=
  s.branch (decide ((s.readX rs).toInt > 0)) imm

/-- `blez` (R172). -/
def execBlez (rs : Reg) (imm : BitVec 16) (s : State) : Result :=
  s.branch (decide ((s.readX rs).toInt ≤ 0)) imm

/-- `bltzal` (R173). -/
def execBltzal (rs : Reg) (imm : BitVec 16) (s : State) : Result :=
  s.branchLink rs (decide ((s.readX rs).toInt < 0)) imm

/-- `bltz` (R174). -/
def execBltz (rs : Reg) (imm : BitVec 16) (s : State) : Result :=
  s.branch (decide ((s.readX rs).toInt < 0)) imm

/-- `bne` (R175). -/
def execBne (rs rt : Reg) (imm : BitVec 16) (s : State) : Result :=
  s.branch (s.readX rs != s.readX rt) imm

end Sys2Proof.Machine
end

