-- ==== Sys2Proof/Machine/Comparison.lean ====
section
/-! DEFINITION. The comparison instructions (spec/42_comparison.md R145 to R148). -/

namespace Sys2Proof.Machine

/-- `slt` (R145). -/
def execSlt (rd rs rt : Reg) (s : State) : Result :=
  .next (s.putX rd (boolWord (signedLt (s.readX rs) (s.readX rt))))

/-- `sltu` (R146). -/
def execSltu (rd rs rt : Reg) (s : State) : Result :=
  .next (s.putX rd (boolWord (unsignedLt (s.readX rs) (s.readX rt))))

/-- `slti` (R147). -/
def execSlti (rt rs : Reg) (imm : BitVec 16) (s : State) : Result :=
  .next (s.putX rt (boolWord (signedLt (s.readX rs) (signExtImm imm))))

/-- `sltiu` (R148): the immediate is sign-extended, then compared unsigned (D26). -/
def execSltiu (rt rs : Reg) (imm : BitVec 16) (s : State) : Result :=
  .next (s.putX rt (boolWord (unsignedLt (s.readX rs) (signExtImm imm))))

end Sys2Proof.Machine
end

