-- ==== Sys2Proof/Machine/Constant.lean ====
section
/-! DEFINITION. The constant-manipulating instruction (spec/41_constant_manipulating.md R140). -/

namespace Sys2Proof.Machine

/-- `lui` (R140): the low half of the register is 0. -/
def execLui (rt : Reg) (imm : BitVec 16) (s : State) : Result :=
  .next (s.putX rt (upperImm imm))

end Sys2Proof.Machine
end

