-- ==== Sys2Proof/Machine/FpNumerics.lean ====
section
/-! DEFINITION. Floating-point numbers (R255) and `FP_NUMERICS` (R258): each function returns the exact result where laws 1 to 3
fix it and a free value of Config (a result or `FPE`) everywhere else (law 4). -/

namespace Sys2Proof.Machine

/-! ### Formats (R255) -/

/-- A format: the widths of its `Fraction` and `Exponent` fields and its bias. -/
structure Fmt where
  frac : Nat
  expBits : Nat
  bias : Nat
  deriving DecidableEq, Repr

/-- Single precision: 1, 8 and 23 bits, bias 127 (R255). -/
def Fmt.single : Fmt := ⟨23, 8, 127⟩

/-- Double precision: 1, 11 and 52 bits, bias 1023 (R255). -/
def Fmt.double : Fmt := ⟨52, 11, 1023⟩

/-- The `S` field of a pattern. -/
def Fmt.neg (F : Fmt) (v : Nat) : Bool := v / 2 ^ (F.frac + F.expBits) % 2 == 1

/-- The `Exponent` field of a pattern. -/
def Fmt.expField (F : Fmt) (v : Nat) : Nat := v / 2 ^ F.frac % 2 ^ F.expBits

/-- The `Fraction` field of a pattern. -/
def Fmt.fracField (F : Fmt) (v : Nat) : Nat := v % 2 ^ F.frac

/-- A normalised number: `Exponent` is neither 0 nor all ones (R255). -/
def Fmt.normal (F : Fmt) (v : Nat) : Bool := F.expField v != 0 && F.expField v != 2 ^ F.expBits - 1

/-- Zero, of either sign (R255). -/
def Fmt.zero (F : Fmt) (v : Nat) : Bool := F.expField v == 0 && F.fracField v == 0

/-- A NaN: `Exponent` all ones, `Fraction` not 0 (R255). -/
def Fmt.nan (F : Fmt) (v : Nat) : Bool := F.expField v == 2 ^ F.expBits - 1 && F.fracField v != 0

/-- The dyadic number `m * 2^e`. -/
structure Dyad where
  m : Int
  e : Int
  deriving DecidableEq, Repr

/-- The value of a normalised pattern, `(-1)^S x (1 + Fraction) x 2^(Exponent - Bias)` (R255), scaled to an integer:
`± (2^frac + Fraction field) * 2^(Exponent - Bias - frac)`. -/
def Fmt.dyad (F : Fmt) (v : Nat) : Dyad where
  m := (if F.neg v then -1 else 1) * ((2 ^ F.frac + F.fracField v : Nat) : Int)
  e := (F.expField v : Int) - F.bias - F.frac

/-- The normalised pattern whose value is exactly `m * 2^e`, if the format has one. With `k` the position of the leading bit of
`|m|`, the significand is `|m|` scaled to `frac + 1` bits, which must be exact, and the `Exponent` field is `e + k + bias`, which
must not be 0, negative or all ones. -/
def Fmt.pack (F : Fmt) (x : Dyad) : Option Nat :=
  let mag := x.m.natAbs
  let k := Nat.log2 mag
  let sig := if k ≤ F.frac then mag * 2 ^ (F.frac - k) else mag / 2 ^ (k - F.frac)
  let expo := x.e + k + F.bias
  if mag = 0 then none
  else if F.frac < k ∧ mag % 2 ^ (k - F.frac) ≠ 0 then none
  else if expo < 1 ∨ 2 ^ F.expBits - 2 < expo then none
  else some ((if x.m < 0 then 2 ^ (F.frac + F.expBits) else 0) + expo.toNat * 2 ^ F.frac + (sig - 2 ^ F.frac))

/-! ### Exact arithmetic on dyadic numbers -/

/-- `x.m * 2^(x.e - e)`, the integer that `x` is in units of `2^e`, for `e ≤ x.e`. -/
def Dyad.scaled (x : Dyad) (e : Int) : Int := x.m * 2 ^ (x.e - e).toNat

def Dyad.add (x y : Dyad) : Dyad :=
  let e := min x.e y.e
  ⟨x.scaled e + y.scaled e, e⟩

def Dyad.negate (x : Dyad) : Dyad := ⟨-x.m, x.e⟩

def Dyad.sub (x y : Dyad) : Dyad := x.add y.negate

def Dyad.mul (x y : Dyad) : Dyad := ⟨x.m * y.m, x.e + y.e⟩

/-- The exact quotient, if it is a dyadic number with at most `frac + 1` more bits after the point. For two significands of the
format every quotient that is a number of the format is one. -/
def Dyad.div (F : Fmt) (x y : Dyad) : Option Dyad :=
  let n := x.m * 2 ^ (F.frac + 1)
  if y.m ≠ 0 ∧ n % y.m = 0 then some ⟨n / y.m, x.e - y.e - (F.frac + 1)⟩ else none

/-- The integer square root, found bit by bit: the largest `r' ≥ r` that differs from `r` in the low `bits` bits and whose square
is at most `n`. -/
def isqrt (n : Nat) : Nat → Nat → Nat
  | 0, r => r
  | b + 1, r => if (r + 2 ^ b) * (r + 2 ^ b) ≤ n then isqrt n b (r + 2 ^ b) else isqrt n b r

/-- The exact square root of a positive number, if it is a dyadic number with a significand of the format: the significand is
scaled by an even or odd power so that the exponent halves. -/
def Dyad.sqrt (F : Fmt) (x : Dyad) : Option Dyad :=
  let t := if (x.e - F.frac) % 2 = 0 then F.frac else F.frac + 1
  let n := (x.m * 2 ^ t).toNat
  let r := isqrt n (F.frac + 1) 0
  if 0 < x.m ∧ r * r = n then some ⟨r, (x.e - t) / 2⟩ else none

def Dyad.lt (x y : Dyad) : Bool :=
  let e := min x.e y.e
  decide (x.scaled e < y.scaled e)

def Dyad.eq (x y : Dyad) : Bool :=
  let e := min x.e y.e
  decide (x.scaled e = y.scaled e)

/-! ### Rounding to an integer (R279) -/

/-- The number as a fraction: numerator and positive denominator. -/
def Dyad.num (x : Dyad) : Int := x.m * 2 ^ x.e.toNat

def Dyad.den (x : Dyad) : Int := 2 ^ (-x.e).toNat

/-- The greatest integer not above. -/
def Dyad.floor (x : Dyad) : Int := x.num / x.den

/-- The least integer not below. -/
def Dyad.ceil (x : Dyad) : Int := -(-x.num / x.den)

/-- Toward zero. -/
def Dyad.trunc (x : Dyad) : Int := x.num.tdiv x.den

/-- To nearest, a tie going to the even integer. -/
def Dyad.round (x : Dyad) : Int :=
  let q := x.num / x.den
  let r := x.num % x.den
  if 2 * r < x.den then q
  else if 2 * r > x.den then q + 1
  else if q % 2 = 0 then q else q + 1

/-! ### `FP_NUMERICS` under the laws of R258 -/

/-- A result that the laws fix, else the free value. -/
def lawOr {α : Type} (fixed : Option α) (free : FpResult α) : FpResult α :=
  match fixed with
  | some v => .value v
  | none => free

/-- Law 1 for a binary operation on singles: both operands normalised and the exact result a normalised single. -/
def exactS (op : Dyad → Dyad → Option Dyad) (a b : Word) : Option Word :=
  if Fmt.single.normal a.toNat && Fmt.single.normal b.toNat then
    (op (Fmt.single.dyad a.toNat) (Fmt.single.dyad b.toNat)).bind fun r => (Fmt.single.pack r).map (BitVec.ofNat 32)
  else none

/-- Law 1 for a binary operation on doubles. -/
def exactD (op : Dyad → Dyad → Option Dyad) (a b : DWord) : Option DWord :=
  if Fmt.double.normal a.toNat && Fmt.double.normal b.toNat then
    (op (Fmt.double.dyad a.toNat) (Fmt.double.dyad b.toNat)).bind fun r => (Fmt.double.pack r).map (BitVec.ofNat 64)
  else none

/-- `FP_NUMERICS.add_s` (R258, R259). -/
def fpAddS (a b : Word) : FpResult Word := lawOr (exactS (fun x y => some (x.add y)) a b) (Config.addS a b)

/-- `FP_NUMERICS.sub_s` (R258, R261): the first operand is the minuend. -/
def fpSubS (a b : Word) : FpResult Word := lawOr (exactS (fun x y => some (x.sub y)) a b) (Config.subS a b)

/-- `FP_NUMERICS.mul_s` (R258, R263). -/
def fpMulS (a b : Word) : FpResult Word := lawOr (exactS (fun x y => some (x.mul y)) a b) (Config.mulS a b)

/-- `FP_NUMERICS.div_s` (R258, R265): the first operand is the dividend. -/
def fpDivS (a b : Word) : FpResult Word := lawOr (exactS (Dyad.div Fmt.single) a b) (Config.divS a b)

/-- `FP_NUMERICS.add_d` (R258, R260). -/
def fpAddD (a b : DWord) : FpResult DWord := lawOr (exactD (fun x y => some (x.add y)) a b) (Config.addD a b)

/-- `FP_NUMERICS.sub_d` (R258, R262). -/
def fpSubD (a b : DWord) : FpResult DWord := lawOr (exactD (fun x y => some (x.sub y)) a b) (Config.subD a b)

/-- `FP_NUMERICS.mul_d` (R258, R264). -/
def fpMulD (a b : DWord) : FpResult DWord := lawOr (exactD (fun x y => some (x.mul y)) a b) (Config.mulD a b)

/-- `FP_NUMERICS.div_d` (R258, R266). -/
def fpDivD (a b : DWord) : FpResult DWord := lawOr (exactD (Dyad.div Fmt.double) a b) (Config.divD a b)

/-- `FP_NUMERICS.sqrt_s` (R258, R275). -/
def fpSqrtS (a : Word) : FpResult Word :=
  lawOr (if Fmt.single.normal a.toNat then
      ((Fmt.single.dyad a.toNat).sqrt Fmt.single).bind fun r => (Fmt.single.pack r).map (BitVec.ofNat 32)
    else none) (Config.sqrtS a)

/-- `FP_NUMERICS.sqrt_d` (R258, R275). -/
def fpSqrtD (a : DWord) : FpResult DWord :=
  lawOr (if Fmt.double.normal a.toNat then
      ((Fmt.double.dyad a.toNat).sqrt Fmt.double).bind fun r => (Fmt.double.pack r).map (BitVec.ofNat 64)
    else none) (Config.sqrtD a)

/-- `abs.s` (R276): the sign bit cleared; a NaN operand is `FP_NUMERICS.abs_s`'s. -/
def fpAbsS (a : Word) : FpResult Word :=
  lawOr (if Fmt.single.nan a.toNat then none else some (a &&& 0x7fffffff#32)) (Config.absS a)

/-- `abs.d` (R276). -/
def fpAbsD (a : DWord) : FpResult DWord :=
  lawOr (if Fmt.double.nan a.toNat then none else some (a &&& 0x7fffffffffffffff#64)) (Config.absD a)

/-- `neg.s` (R278): the sign bit inverted; a NaN operand is `FP_NUMERICS.neg_s`'s. -/
def fpNegS (a : Word) : FpResult Word :=
  lawOr (if Fmt.single.nan a.toNat then none else some (a ^^^ 0x80000000#32)) (Config.negS a)

/-- `neg.d` (R278). -/
def fpNegD (a : DWord) : FpResult DWord :=
  lawOr (if Fmt.double.nan a.toNat then none else some (a ^^^ 0x8000000000000000#64)) (Config.negD a)

/-- Law 2: the truth of the condition on the values of two normalised patterns; `unordered` is then false (R270). -/
def exactCmp (F : Fmt) (cond : BitVec 4) (a b : Nat) : Option Bool :=
  if F.normal a && F.normal b then
    some (condHolds cond ((F.dyad a).lt (F.dyad b)) ((F.dyad a).eq (F.dyad b)) false)
  else none

/-- `FP_NUMERICS.cmp_s` (R258, R267 to R270). -/
def fpCmpS (cond : BitVec 4) (a b : Word) : FpResult Bool :=
  lawOr (exactCmp Fmt.single cond a.toNat b.toNat) (Config.cmpS cond a b)

/-- `FP_NUMERICS.cmp_d` (R258, R267 to R270). -/
def fpCmpD (cond : BitVec 4) (a b : DWord) : FpResult Bool :=
  lawOr (exactCmp Fmt.double cond a.toNat b.toNat) (Config.cmpD cond a b)

/-- `FP_NUMERICS.cvt_s_d` (R258, R280): law 1, the value of a normalised double that is the value of a normalised single. -/
def fpCvtSD (a : DWord) : FpResult Word :=
  lawOr (if Fmt.double.normal a.toNat then (Fmt.single.pack (Fmt.double.dyad a.toNat)).map (BitVec.ofNat 32) else none)
    (Config.cvtSD a)

/-- `FP_NUMERICS.cvt_d_s` (R258, R280): every normalised single is exactly a normalised double. -/
def fpCvtDS (a : Word) : FpResult DWord :=
  lawOr (if Fmt.single.normal a.toNat then (Fmt.double.pack (Fmt.single.dyad a.toNat)).map (BitVec.ofNat 64) else none)
    (Config.cvtDS a)

/-- An integer in -2^31 .. 2^31 - 1 as its 32-bit two's-complement pattern (R279). -/
def inRangeWord (n : Int) : Option Word := if outOfRange n then none else some (BitVec.ofInt 32 n)

/-- Law 3 for the fixed roundings: a normalised or zero operand whose rounded value is in range (R279). -/
def exactRound (F : Fmt) (rnd : Dyad → Int) (a : Nat) : Option Word :=
  if F.normal a then inRangeWord (rnd (F.dyad a)) else if F.zero a then some 0#32 else none

/-- Law 3 for `cvt.w`: an integer-valued normalised operand in range (R280). -/
def exactCvtW (F : Fmt) (a : Nat) : Option Word :=
  if F.normal a && (F.dyad a).num % (F.dyad a).den == 0 then inRangeWord (F.dyad a).floor else none

/-- `FP_NUMERICS.round_w_s` (R258, R279). -/
def fpRoundWS (a : Word) : FpResult Word := lawOr (exactRound Fmt.single Dyad.round a.toNat) (Config.roundWS a)

/-- `FP_NUMERICS.round_w_d` (R258, R279). -/
def fpRoundWD (a : DWord) : FpResult Word := lawOr (exactRound Fmt.double Dyad.round a.toNat) (Config.roundWD a)

/-- `FP_NUMERICS.trunc_w_s` (R258, R279). -/
def fpTruncWS (a : Word) : FpResult Word := lawOr (exactRound Fmt.single Dyad.trunc a.toNat) (Config.truncWS a)

/-- `FP_NUMERICS.trunc_w_d` (R258, R279). -/
def fpTruncWD (a : DWord) : FpResult Word := lawOr (exactRound Fmt.double Dyad.trunc a.toNat) (Config.truncWD a)

/-- `FP_NUMERICS.ceil_w_s` (R258, R279). -/
def fpCeilWS (a : Word) : FpResult Word := lawOr (exactRound Fmt.single Dyad.ceil a.toNat) (Config.ceilWS a)

/-- `FP_NUMERICS.ceil_w_d` (R258, R279). -/
def fpCeilWD (a : DWord) : FpResult Word := lawOr (exactRound Fmt.double Dyad.ceil a.toNat) (Config.ceilWD a)

/-- `FP_NUMERICS.floor_w_s` (R258, R279). -/
def fpFloorWS (a : Word) : FpResult Word := lawOr (exactRound Fmt.single Dyad.floor a.toNat) (Config.floorWS a)

/-- `FP_NUMERICS.floor_w_d` (R258, R279). -/
def fpFloorWD (a : DWord) : FpResult Word := lawOr (exactRound Fmt.double Dyad.floor a.toNat) (Config.floorWD a)

/-- `FP_NUMERICS.cvt_w_s` (R258, R280). -/
def fpCvtWS (a : Word) : FpResult Word := lawOr (exactCvtW Fmt.single a.toNat) (Config.cvtWS a)

/-- `FP_NUMERICS.cvt_w_d` (R258, R280). -/
def fpCvtWD (a : DWord) : FpResult Word := lawOr (exactCvtW Fmt.double a.toNat) (Config.cvtWD a)

end Sys2Proof.Machine
end

