-- ==== Sys2Proof/Machine/Float.lean ====
section
/-! DEFINITION. The floating-point instructions (spec/48_floating_point.md R255 to R281). -/

namespace Sys2Proof.Machine

/-! ### What the family shares -/

/-- The two checks at decode: an absent unit raises Coprocessor Unimplemented before any other check (R256); an odd register
named as a double-precision operand is refused (R257). `doubles` are the registers named so. -/
def State.fp (s : State) (doubles : List FReg) (k : State) : Result :=
  if s.params.hasFpu then
    if doubles.all evenReg then .next k else .refused .oddDouble
  else .next (s.raise .coprocessorUnimplemented)

/-- `f[fd] <- r`, or Floating Point Exception (R258). -/
def State.putF (s : State) (fd : FReg) (r : FpResult Word) : State :=
  match r with
  | .value v => (s.writeF fd v).advance
  | .fpe => s.raise .floatingPointException

/-- `D(fd) <- r`, or Floating Point Exception (R258). -/
def State.putD (s : State) (fd : FReg) (r : FpResult DWord) : State :=
  match r with
  | .value v => (s.writeD fd v).advance
  | .fpe => s.raise .floatingPointException

/-- `cc[n] <- r`, or Floating Point Exception (R258, R267). -/
def State.putCc (s : State) (n : CcNum) (r : FpResult Bool) : State :=
  match r with
  | .value b => (s.writeCc n b).advance
  | .fpe => s.raise .floatingPointException

/-- A single-precision compare (R267, R270). -/
def State.compareS (s : State) (cond : BitVec 4) (cc : CcNum) (fs ft : FReg) : Result :=
  s.fp [] (s.putCc cc (fpCmpS cond (s.readF fs) (s.readF ft)))

/-- A double-precision compare (R267, R270). -/
def State.compareD (s : State) (cond : BitVec 4) (cc : CcNum) (fs ft : FReg) : Result :=
  s.fp [fs, ft] (s.putCc cc (fpCmpD cond (s.readD fs) (s.readD ft)))

/-! ### Loads and stores (R271 to R274) -/

/-- `lwc1` (R271): the 32 bits unchanged. -/
def execLwc1 (ft : FReg) (imm : BitVec 16) (rs : Reg) (s : State) : Result :=
  s.fp [] (s.orRaise (s.accessFault .load 4 (s.effectiveAddr rs imm))
    (s.putF ft (.value (s.readWord (s.effectiveAddr rs imm)))))

/-- `ldc1` (R272): two words, the one at the lower address the more significant; both read before either register is written. -/
def execLdc1 (ft : FReg) (imm : BitVec 16) (rs : Reg) (s : State) : Result :=
  s.fp [ft] (s.orRaise (s.accessFault .load 8 (s.effectiveAddr rs imm))
    (s.putD ft (.value (s.readWord (s.effectiveAddr rs imm) ++ s.readWord (s.effectiveAddr rs imm + 4#32)))))

/-- `swc1` (R273). -/
def execSwc1 (ft : FReg) (imm : BitVec 16) (rs : Reg) (s : State) : Result :=
  s.fp [] (s.orRaise (s.accessFault .store 4 (s.effectiveAddr rs imm))
    (s.writeWord (s.effectiveAddr rs imm) (s.readF ft)).advance)

/-- `sdc1` (R274): two words, the more significant at the lower address; all checks come before the first write. -/
def execSdc1 (ft : FReg) (imm : BitVec 16) (rs : Reg) (s : State) : Result :=
  s.fp [ft] (s.orRaise (s.accessFault .store 8 (s.effectiveAddr rs imm))
    ((s.writeWord (s.effectiveAddr rs imm) ((s.readD ft).extractLsb' 32 32)).writeWord
      (s.effectiveAddr rs imm + 4#32) ((s.readD ft).extractLsb' 0 32)).advance)

/-! ### Arithmetic (R259 to R266) -/

/-- `add.s` (R259). -/
def execAddS (fd fs ft : FReg) (s : State) : Result :=
  s.fp [] (s.putF fd (fpAddS (s.readF fs) (s.readF ft)))

/-- `add.d` (R260). -/
def execAddD (fd fs ft : FReg) (s : State) : Result :=
  s.fp [fd, fs, ft] (s.putD fd (fpAddD (s.readD fs) (s.readD ft)))

/-- `sub.s` (R261). -/
def execSubS (fd fs ft : FReg) (s : State) : Result :=
  s.fp [] (s.putF fd (fpSubS (s.readF fs) (s.readF ft)))

/-- `sub.d` (R262). -/
def execSubD (fd fs ft : FReg) (s : State) : Result :=
  s.fp [fd, fs, ft] (s.putD fd (fpSubD (s.readD fs) (s.readD ft)))

/-- `mul.s` (R263). -/
def execMulS (fd fs ft : FReg) (s : State) : Result :=
  s.fp [] (s.putF fd (fpMulS (s.readF fs) (s.readF ft)))

/-- `mul.d` (R264). -/
def execMulD (fd fs ft : FReg) (s : State) : Result :=
  s.fp [fd, fs, ft] (s.putD fd (fpMulD (s.readD fs) (s.readD ft)))

/-- `div.s` (R265). -/
def execDivS (fd fs ft : FReg) (s : State) : Result :=
  s.fp [] (s.putF fd (fpDivS (s.readF fs) (s.readF ft)))

/-- `div.d` (R266). -/
def execDivD (fd fs ft : FReg) (s : State) : Result :=
  s.fp [fd, fs, ft] (s.putD fd (fpDivD (s.readD fs) (s.readD ft)))

/-! ### Functions of one operand (R275 to R280) -/

/-- `sqrt.s` (R275). -/
def execSqrtS (fd fs : FReg) (s : State) : Result :=
  s.fp [] (s.putF fd (fpSqrtS (s.readF fs)))

/-- `sqrt.d` (R275). -/
def execSqrtD (fd fs : FReg) (s : State) : Result :=
  s.fp [fd, fs] (s.putD fd (fpSqrtD (s.readD fs)))

/-- `abs.s` (R276). -/
def execAbsS (fd fs : FReg) (s : State) : Result :=
  s.fp [] (s.putF fd (fpAbsS (s.readF fs)))

/-- `abs.d` (R276). -/
def execAbsD (fd fs : FReg) (s : State) : Result :=
  s.fp [fd, fs] (s.putD fd (fpAbsD (s.readD fs)))

/-- `neg.s` (R278). -/
def execNegS (fd fs : FReg) (s : State) : Result :=
  s.fp [] (s.putF fd (fpNegS (s.readF fs)))

/-- `neg.d` (R278). -/
def execNegD (fd fs : FReg) (s : State) : Result :=
  s.fp [fd, fs] (s.putD fd (fpNegD (s.readD fs)))

/-- `mov.s` (R277): a bit-for-bit copy. -/
def execMovS (fd fs : FReg) (s : State) : Result :=
  s.fp [] (s.putF fd (.value (s.readF fs)))

/-- `mov.d` (R277). -/
def execMovD (fd fs : FReg) (s : State) : Result :=
  s.fp [fd, fs] (s.putD fd (.value (s.readD fs)))

/-- `round.w.s` (R279). -/
def execRoundWS (fd fs : FReg) (s : State) : Result :=
  s.fp [] (s.putF fd (fpRoundWS (s.readF fs)))

/-- `round.w.d` (R279): the destination is one register, of any number. -/
def execRoundWD (fd fs : FReg) (s : State) : Result :=
  s.fp [fs] (s.putF fd (fpRoundWD (s.readD fs)))

/-- `trunc.w.s` (R279). -/
def execTruncWS (fd fs : FReg) (s : State) : Result :=
  s.fp [] (s.putF fd (fpTruncWS (s.readF fs)))

/-- `trunc.w.d` (R279): the destination is one register, of any number. -/
def execTruncWD (fd fs : FReg) (s : State) : Result :=
  s.fp [fs] (s.putF fd (fpTruncWD (s.readD fs)))

/-- `ceil.w.s` (R279). -/
def execCeilWS (fd fs : FReg) (s : State) : Result :=
  s.fp [] (s.putF fd (fpCeilWS (s.readF fs)))

/-- `ceil.w.d` (R279): the destination is one register, of any number. -/
def execCeilWD (fd fs : FReg) (s : State) : Result :=
  s.fp [fs] (s.putF fd (fpCeilWD (s.readD fs)))

/-- `floor.w.s` (R279). -/
def execFloorWS (fd fs : FReg) (s : State) : Result :=
  s.fp [] (s.putF fd (fpFloorWS (s.readF fs)))

/-- `floor.w.d` (R279): the destination is one register, of any number. -/
def execFloorWD (fd fs : FReg) (s : State) : Result :=
  s.fp [fs] (s.putF fd (fpFloorWD (s.readD fs)))

/-- `cvt.s.d` (R280). -/
def execCvtSD (fd fs : FReg) (s : State) : Result :=
  s.fp [fs] (s.putF fd (fpCvtSD (s.readD fs)))

/-- `cvt.d.s` (R280). -/
def execCvtDS (fd fs : FReg) (s : State) : Result :=
  s.fp [fd] (s.putD fd (fpCvtDS (s.readF fs)))

/-- `cvt.w.s` (R280). -/
def execCvtWS (fd fs : FReg) (s : State) : Result :=
  s.fp [] (s.putF fd (fpCvtWS (s.readF fs)))

/-- `cvt.w.d` (R280). -/
def execCvtWD (fd fs : FReg) (s : State) : Result :=
  s.fp [fs] (s.putF fd (fpCvtWD (s.readD fs)))

/-! ### Conditional moves on a general register (R281) -/

/-- `movz.s` (R281). -/
def execMovzS (fd fs : FReg) (rt : Reg) (s : State) : Result :=
  s.fp [] (if s.readX rt = 0#32 then s.putF fd (.value (s.readF fs)) else s.advance)

/-- `movz.d` (R281). -/
def execMovzD (fd fs : FReg) (rt : Reg) (s : State) : Result :=
  s.fp [fd, fs] (if s.readX rt = 0#32 then s.putD fd (.value (s.readD fs)) else s.advance)

/-- `movn.s` (R281). -/
def execMovnS (fd fs : FReg) (rt : Reg) (s : State) : Result :=
  s.fp [] (if s.readX rt ≠ 0#32 then s.putF fd (.value (s.readF fs)) else s.advance)

/-- `movn.d` (R281). -/
def execMovnD (fd fs : FReg) (rt : Reg) (s : State) : Result :=
  s.fp [fd, fs] (if s.readX rt ≠ 0#32 then s.putD fd (.value (s.readD fs)) else s.advance)

/-! ### Comparisons (R267 to R270): `cond` = funct[3:0] -/

/-- `c.f.s` (R270). -/
def execCFS (cc : CcNum) (fs ft : FReg) (s : State) : Result :=
  s.compareS 0b0000#4 cc fs ft

/-- `c.un.s` (R270). -/
def execCUnS (cc : CcNum) (fs ft : FReg) (s : State) : Result :=
  s.compareS 0b0001#4 cc fs ft

/-- `c.eq.s` (R267). -/
def execCEqS (cc : CcNum) (fs ft : FReg) (s : State) : Result :=
  s.compareS 0b0010#4 cc fs ft

/-- `c.ueq.s` (R270). -/
def execCUeqS (cc : CcNum) (fs ft : FReg) (s : State) : Result :=
  s.compareS 0b0011#4 cc fs ft

/-- `c.olt.s` (R270). -/
def execCOltS (cc : CcNum) (fs ft : FReg) (s : State) : Result :=
  s.compareS 0b0100#4 cc fs ft

/-- `c.ult.s` (R270). -/
def execCUltS (cc : CcNum) (fs ft : FReg) (s : State) : Result :=
  s.compareS 0b0101#4 cc fs ft

/-- `c.ole.s` (R270). -/
def execCOleS (cc : CcNum) (fs ft : FReg) (s : State) : Result :=
  s.compareS 0b0110#4 cc fs ft

/-- `c.ule.s` (R270). -/
def execCUleS (cc : CcNum) (fs ft : FReg) (s : State) : Result :=
  s.compareS 0b0111#4 cc fs ft

/-- `c.sf.s` (R270). -/
def execCSfS (cc : CcNum) (fs ft : FReg) (s : State) : Result :=
  s.compareS 0b1000#4 cc fs ft

/-- `c.ngle.s` (R270). -/
def execCNgleS (cc : CcNum) (fs ft : FReg) (s : State) : Result :=
  s.compareS 0b1001#4 cc fs ft

/-- `c.seq.s` (R270). -/
def execCSeqS (cc : CcNum) (fs ft : FReg) (s : State) : Result :=
  s.compareS 0b1010#4 cc fs ft

/-- `c.ngl.s` (R270). -/
def execCNglS (cc : CcNum) (fs ft : FReg) (s : State) : Result :=
  s.compareS 0b1011#4 cc fs ft

/-- `c.lt.s` (R268). -/
def execCLtS (cc : CcNum) (fs ft : FReg) (s : State) : Result :=
  s.compareS 0b1100#4 cc fs ft

/-- `c.nge.s` (R270). -/
def execCNgeS (cc : CcNum) (fs ft : FReg) (s : State) : Result :=
  s.compareS 0b1101#4 cc fs ft

/-- `c.le.s` (R269). -/
def execCLeS (cc : CcNum) (fs ft : FReg) (s : State) : Result :=
  s.compareS 0b1110#4 cc fs ft

/-- `c.ngt.s` (R270). -/
def execCNgtS (cc : CcNum) (fs ft : FReg) (s : State) : Result :=
  s.compareS 0b1111#4 cc fs ft

/-- `c.f.d` (R270). -/
def execCFD (cc : CcNum) (fs ft : FReg) (s : State) : Result :=
  s.compareD 0b0000#4 cc fs ft

/-- `c.un.d` (R270). -/
def execCUnD (cc : CcNum) (fs ft : FReg) (s : State) : Result :=
  s.compareD 0b0001#4 cc fs ft

/-- `c.eq.d` (R267). -/
def execCEqD (cc : CcNum) (fs ft : FReg) (s : State) : Result :=
  s.compareD 0b0010#4 cc fs ft

/-- `c.ueq.d` (R270). -/
def execCUeqD (cc : CcNum) (fs ft : FReg) (s : State) : Result :=
  s.compareD 0b0011#4 cc fs ft

/-- `c.olt.d` (R270). -/
def execCOltD (cc : CcNum) (fs ft : FReg) (s : State) : Result :=
  s.compareD 0b0100#4 cc fs ft

/-- `c.ult.d` (R270). -/
def execCUltD (cc : CcNum) (fs ft : FReg) (s : State) : Result :=
  s.compareD 0b0101#4 cc fs ft

/-- `c.ole.d` (R270). -/
def execCOleD (cc : CcNum) (fs ft : FReg) (s : State) : Result :=
  s.compareD 0b0110#4 cc fs ft

/-- `c.ule.d` (R270). -/
def execCUleD (cc : CcNum) (fs ft : FReg) (s : State) : Result :=
  s.compareD 0b0111#4 cc fs ft

/-- `c.sf.d` (R270). -/
def execCSfD (cc : CcNum) (fs ft : FReg) (s : State) : Result :=
  s.compareD 0b1000#4 cc fs ft

/-- `c.ngle.d` (R270). -/
def execCNgleD (cc : CcNum) (fs ft : FReg) (s : State) : Result :=
  s.compareD 0b1001#4 cc fs ft

/-- `c.seq.d` (R270). -/
def execCSeqD (cc : CcNum) (fs ft : FReg) (s : State) : Result :=
  s.compareD 0b1010#4 cc fs ft

/-- `c.ngl.d` (R270). -/
def execCNglD (cc : CcNum) (fs ft : FReg) (s : State) : Result :=
  s.compareD 0b1011#4 cc fs ft

/-- `c.lt.d` (R268). -/
def execCLtD (cc : CcNum) (fs ft : FReg) (s : State) : Result :=
  s.compareD 0b1100#4 cc fs ft

/-- `c.nge.d` (R270). -/
def execCNgeD (cc : CcNum) (fs ft : FReg) (s : State) : Result :=
  s.compareD 0b1101#4 cc fs ft

/-- `c.le.d` (R269). -/
def execCLeD (cc : CcNum) (fs ft : FReg) (s : State) : Result :=
  s.compareD 0b1110#4 cc fs ft

/-- `c.ngt.d` (R270). -/
def execCNgtD (cc : CcNum) (fs ft : FReg) (s : State) : Result :=
  s.compareD 0b1111#4 cc fs ft

end Sys2Proof.Machine
end

