-- ==== Sys2Proof/Machine/Jump.lean ====
section
/-! DEFINITION. The jump instructions (spec/44_jump.md R190 to R194): unconditional, delayed, refused in a delay slot (R30, R190). -/

namespace Sys2Proof.Machine

/-- `j` (R191). -/
def execJ (address : BitVec 26) (s : State) : Result :=
  if s.bd then .refused .transferInDelaySlot else .next (s.transfer true (s.jumpTarget address))

/-- `jal` (R192). -/
def execJal (address : BitVec 26) (s : State) : Result :=
  if s.bd then .refused .transferInDelaySlot
  else .next ((s.writeX 31#5 s.linkAddr).transfer true (s.jumpTarget address))

/-- `jr` (R193): the target is read before the delay slot; a misaligned one faults at its fetch (R28). -/
def execJr (rs : Reg) (s : State) : Result :=
  if s.bd then .refused .transferInDelaySlot else .next (s.transfer true (s.readX rs))

/-- `jalr` (R194): refused for `rd` = `rs` (D28). -/
def execJalr (rd rs : Reg) (s : State) : Result :=
  if s.bd then .refused .transferInDelaySlot
  else if rd = rs then .refused .linkClash
  else .next ((s.writeX rd s.linkAddr).transfer true (s.readX rs))

end Sys2Proof.Machine
end

