-- ==== Sys2Proof/Machine/LoadStore.lean ====
section
/-! DEFINITION. The integer load and store instructions and the atomic pair (spec/46_load_store.md R215 to R229). -/

namespace Sys2Proof.Machine

/-- A load (R225): the checks at the address for `n` bytes, then the read and the register write. -/
def State.loadX (s : State) (rt : Reg) (imm : BitVec 16) (rs : Reg) (n : Nat) (v : Word) : Result :=
  .next (s.orRaise (s.accessFault .load n (s.effectiveAddr rs imm)) (s.putX rt v))

/-- A store (R225): the checks at the address for `n` bytes, then the memory write, given as the state after it. -/
def State.storeX (s : State) (imm : BitVec 16) (rs : Reg) (n : Nat) (stored : State) : Result :=
  .next (s.orRaise (s.accessFault .store n (s.effectiveAddr rs imm)) stored.advance)

/-- `lb` (R217). -/
def execLb (rt : Reg) (imm : BitVec 16) (rs : Reg) (s : State) : Result :=
  s.loadX rt imm rs 1 (sext32 (s.readByte (s.effectiveAddr rs imm)))

/-- `lbu` (R218). -/
def execLbu (rt : Reg) (imm : BitVec 16) (rs : Reg) (s : State) : Result :=
  s.loadX rt imm rs 1 (zext32 (s.readByte (s.effectiveAddr rs imm)))

/-- `lh` (R219). -/
def execLh (rt : Reg) (imm : BitVec 16) (rs : Reg) (s : State) : Result :=
  s.loadX rt imm rs 2 (sext32 (s.readHalf (s.effectiveAddr rs imm)))

/-- `lhu` (R220). -/
def execLhu (rt : Reg) (imm : BitVec 16) (rs : Reg) (s : State) : Result :=
  s.loadX rt imm rs 2 (zext32 (s.readHalf (s.effectiveAddr rs imm)))

/-- `lw` (R221). -/
def execLw (rt : Reg) (imm : BitVec 16) (rs : Reg) (s : State) : Result :=
  s.loadX rt imm rs 4 (s.readWord (s.effectiveAddr rs imm))

/-- `sb` (R222). -/
def execSb (rt : Reg) (imm : BitVec 16) (rs : Reg) (s : State) : Result :=
  s.storeX imm rs 1 (s.writeByte (s.effectiveAddr rs imm) ((s.readX rt).extractLsb' 0 8))

/-- `sh` (R223). -/
def execSh (rt : Reg) (imm : BitVec 16) (rs : Reg) (s : State) : Result :=
  s.storeX imm rs 2 (s.writeHalf (s.effectiveAddr rs imm) ((s.readX rt).extractLsb' 0 16))

/-- `sw` (R224). -/
def execSw (rt : Reg) (imm : BitVec 16) (rs : Reg) (s : State) : Result :=
  s.storeX imm rs 4 (s.writeWord (s.effectiveAddr rs imm) (s.readX rt))

/-- The link that `ll` makes (R228). -/
def State.setLink (s : State) (a : Word) : State := { s with llBit := true, llAddr := a }

/-- `LLbit <- 0` (R45). -/
def State.clearLink (s : State) : State := { s with llBit := false }

/-- `ll` (R228): a word load that makes the link; a faulting `ll` makes none. -/
def execLl (rt : Reg) (imm : BitVec 16) (rs : Reg) (s : State) : Result :=
  .next (s.orRaise (s.accessFault .load 4 (s.effectiveAddr rs imm))
    ((s.setLink (s.effectiveAddr rs imm)).putX rt (s.readWord (s.effectiveAddr rs imm))))

/-- The implementation's say in the success of an `sc`: always yes unless `SC_MAY_FAIL`, then a free value (R229). -/
def State.scAgrees (s : State) : Bool := if s.params.scMayFail then Config.drawBit s.draws else true

/-- The state after that say: a draw is counted. -/
def State.scDrawn (s : State) : State := if s.params.scMayFail then s.drawn else s

/-- The atomic condition of `sc` (R229): linked, to the same address, and the implementation agrees. -/
def State.scSucceeds (s : State) (a : Word) : Bool := s.llBit && a == s.llAddr && s.scAgrees

/-- `sc` (R229): the address checks; then, when the pair is atomic, the bus check and the store; `x[rt]` is 1 or 0; the link is
cleared (log entry 15). -/
def execSc (rt : Reg) (imm : BitVec 16) (rs : Reg) (s : State) : Result :=
  .next (s.orRaise (s.addressFault .store 4 (s.effectiveAddr rs imm))
    (if s.scSucceeds (s.effectiveAddr rs imm) then
      if s.backed (s.effectiveAddr rs imm) 4 then
        (s.scDrawn.writeWord (s.effectiveAddr rs imm) (s.readX rt)).clearLink.putX rt 1#32
      else s.scDrawn.raise .busErrorData
    else s.scDrawn.clearLink.putX rt 0#32))

end Sys2Proof.Machine
end

