-- ==== Sys2Proof/Machine/MulDiv.lean ====
section
/-! DEFINITION. Multiply, divide and the HI/LO registers (spec/47_multiply_divide.md R240 to R248). None raises an exception (R240). -/

namespace Sys2Proof.Machine

/-- Write `HI` and `LO` and go on (R240). -/
def State.putHiLo (s : State) (h l : Word) : State := { s with hi := h, lo := l }.advance

/-- `mult` (R241): the exact signed product, 64 bits. -/
def execMult (rs rt : Reg) (s : State) : Result :=
  let p : DWord := BitVec.ofInt 64 ((s.readX rs).toInt * (s.readX rt).toInt)
  .next (s.putHiLo (p.extractLsb' 32 32) (p.extractLsb' 0 32))

/-- `multu` (R242): the exact unsigned product, 64 bits. -/
def execMultu (rs rt : Reg) (s : State) : Result :=
  let p : DWord := BitVec.ofNat 64 ((s.readX rs).toNat * (s.readX rt).toNat)
  .next (s.putHiLo (p.extractLsb' 32 32) (p.extractLsb' 0 32))

/-- A division by zero leaves two independent free values in `HI` and `LO`, no exception (R243, R244; log entry 8). -/
def State.divideByZero (s : State) : State :=
  s.drawn.drawn.putHiLo (Config.drawWord (s.draws + 1)) (Config.drawWord s.draws)

/-- `div` (R243): quotient toward zero, remainder with the dividend's sign; -2^31 / -1 wraps to 0x80000000 remainder 0. -/
def execDiv (rs rt : Reg) (s : State) : Result :=
  .next (if s.readX rt = 0#32 then s.divideByZero
    else s.putHiLo (BitVec.ofInt 32 ((s.readX rs).toInt.tmod (s.readX rt).toInt))
      (BitVec.ofInt 32 ((s.readX rs).toInt.tdiv (s.readX rt).toInt)))

/-- `divu` (R244). -/
def execDivu (rs rt : Reg) (s : State) : Result :=
  .next (if s.readX rt = 0#32 then s.divideByZero
    else s.putHiLo (BitVec.ofNat 32 ((s.readX rs).toNat % (s.readX rt).toNat))
      (BitVec.ofNat 32 ((s.readX rs).toNat / (s.readX rt).toNat)))

/-- `mfhi` (R245). -/
def execMfhi (rd : Reg) (s : State) : Result :=
  .next (s.putX rd s.hi)

/-- `mflo` (R246). -/
def execMflo (rd : Reg) (s : State) : Result :=
  .next (s.putX rd s.lo)

/-- `mthi` (R247): `LO` unchanged. -/
def execMthi (rs : Reg) (s : State) : Result :=
  .next (s.putHiLo (s.readX rs) s.lo)

/-- `mtlo` (R248): `HI` unchanged. -/
def execMtlo (rs : Reg) (s : State) : Result :=
  .next (s.putHiLo s.hi (s.readX rs))

end Sys2Proof.Machine
end

