-- ==== Sys2Proof/Machine/NamedOnly.lean ====
section
/-! DEFINITION. The instructions D0 names but does not define (spec/49_named_only.md), and the unlisted words (R98). -/

namespace Sys2Proof.Machine

/-- `lwl` (R304): the spec gives it no meaning (R300). -/
def execLwl (_rt : Reg) (_imm : BitVec 16) (_rs : Reg) (_s : State) : Result :=
  .refused .unalignedPieceUndefined

/-- `lwr` (R305): the spec gives it no meaning (R300). -/
def execLwr (_rt : Reg) (_imm : BitVec 16) (_rs : Reg) (_s : State) : Result :=
  .refused .unalignedPieceUndefined

/-- `swl` (R306): the spec gives it no meaning (R300). -/
def execSwl (_rt : Reg) (_imm : BitVec 16) (_rs : Reg) (_s : State) : Result :=
  .refused .unalignedPieceUndefined

/-- `swr` (R307): the spec gives it no meaning (R300). -/
def execSwr (_rt : Reg) (_imm : BitVec 16) (_rs : Reg) (_s : State) : Result :=
  .refused .unalignedPieceUndefined

/-- `lwc2` (R308): no coprocessor 2 is described (R300). -/
def execLwc2 (_rt : Reg) (_imm : BitVec 16) (_rs : Reg) (_s : State) : Result :=
  .refused .coprocessor2Undefined

/-- `ldc2` (R308): no coprocessor 2 is described (R300). -/
def execLdc2 (_rt : Reg) (_imm : BitVec 16) (_rs : Reg) (_s : State) : Result :=
  .refused .coprocessor2Undefined

/-- `swc2` (R308): no coprocessor 2 is described (R300). -/
def execSwc2 (_rt : Reg) (_imm : BitVec 16) (_rs : Reg) (_s : State) : Result :=
  .refused .coprocessor2Undefined

/-- `sdc2` (R308): no coprocessor 2 is described (R300). -/
def execSdc2 (_rt : Reg) (_imm : BitVec 16) (_rs : Reg) (_s : State) : Result :=
  .refused .coprocessor2Undefined

/-- `cache` (R310): no cache is described (R300). -/
def execCache (_rt : Reg) (_imm : BitVec 16) (_rs : Reg) (_s : State) : Result :=
  .refused .cacheUndefined

/-- `pref` (R311): no meaning (R300), unless the run takes R311's option and makes it a no-operation (log entry 21). -/
def execPref (_rt : Reg) (_imm : BitVec 16) (_rs : Reg) (s : State) : Result :=
  if s.params.prefIsNoOp then .next s.advance else .refused .prefetchUndefined

/-- `sync` (R303): no operation; with one agent and program order there is nothing to order (R65). -/
def execSync (s : State) : Result :=
  .next s.advance

/-- A word that matches no row (R98): Reserved Instruction, or a refusal under the strict `UNLISTED_ENCODING`. With no
floating-point unit every word with `opcode` = 0x11 raises Coprocessor Unimplemented before any other check (R256; log entry
12). -/
def unlistedWord (w : Word) (s : State) : Result :=
  if !s.params.hasFpu && w.extractLsb' 26 6 == 0x11#6 then .next (s.raise .coprocessorUnimplemented)
  else match s.params.unlisted with
    | .ri => .next (s.raise .reservedInstruction)
    | .refuse => .refused (.unlistedEncoding w)

end Sys2Proof.Machine
end

