-- ==== Sys2Proof/Machine/Trap.lean ====
section
/-! DEFINITION. The trap and system instructions (spec/45_trap.md R200 to R213). -/

namespace Sys2Proof.Machine

/-- A conditional trap: Trap when the condition holds, else nothing (R200). -/
def State.trapIf (s : State) (c : Bool) : Result :=
  .next (s.orRaise (if c then some .trap else none) s.advance)

/-- `teq` (R201); the code field is ignored (R95). -/
def execTeq (rs rt : Reg) (_code : BitVec 10) (s : State) : Result :=
  s.trapIf (s.readX rs == s.readX rt)

/-- `tne` (R203); the code field is ignored (R95). -/
def execTne (rs rt : Reg) (_code : BitVec 10) (s : State) : Result :=
  s.trapIf (s.readX rs != s.readX rt)

/-- `tge` (R205); the code field is ignored (R95). -/
def execTge (rs rt : Reg) (_code : BitVec 10) (s : State) : Result :=
  s.trapIf (!signedLt (s.readX rs) (s.readX rt))

/-- `tgeu` (R206); the code field is ignored (R95). -/
def execTgeu (rs rt : Reg) (_code : BitVec 10) (s : State) : Result :=
  s.trapIf (!unsignedLt (s.readX rs) (s.readX rt))

/-- `tlt` (R207); the code field is ignored (R95). -/
def execTlt (rs rt : Reg) (_code : BitVec 10) (s : State) : Result :=
  s.trapIf (signedLt (s.readX rs) (s.readX rt))

/-- `tltu` (R208); the code field is ignored (R95). -/
def execTltu (rs rt : Reg) (_code : BitVec 10) (s : State) : Result :=
  s.trapIf (unsignedLt (s.readX rs) (s.readX rt))

/-- `teqi` (R202). -/
def execTeqi (rs : Reg) (imm : BitVec 16) (s : State) : Result :=
  s.trapIf (s.readX rs == signExtImm imm)

/-- `tnei` (R204). -/
def execTnei (rs : Reg) (imm : BitVec 16) (s : State) : Result :=
  s.trapIf (s.readX rs != signExtImm imm)

/-- `syscall` (R209): raises Syscall; under `SYSCALL_IS_HOST_CALL` its effect is the host's, not the spec's (log entry 20). -/
def execSyscall (_code : BitVec 20) (s : State) : Result :=
  if s.params.syscallIsHostCall then .refused .hostCall else .next (s.raise .syscall)

/-- `break` (R210): raises Breakpoint. -/
def execBrk (_code : BitVec 20) (s : State) : Result :=
  .next (s.raise .breakpoint)

/-- `CP0[n]` for the registers of R42; any other number is a free value (R211). -/
def State.readCp0 (s : State) (n : BitVec 5) : Word :=
  if n = 8#5 then s.badVAddr
  else if n = 12#5 then s.status.toWord
  else if n = 13#5 then s.cause.toWord s.pending
  else if n = 14#5 then s.epc
  else Config.drawWord s.draws

/-- A register number that R42 describes. -/
def cp0Described (n : BitVec 5) : Bool := n == 8#5 || n == 12#5 || n == 13#5 || n == 14#5

/-- `CP0[n] <- v` (R212): `Status` and `EPC` are written; `Cause`, `BadVAddr` and every other number ignore the write. -/
def State.writeCp0 (s : State) (n : BitVec 5) (v : Word) : State :=
  if n = 12#5 then { s with status := Status.ofWord v }
  else if n = 14#5 then { s with epc := v }
  else s

/-- `mfc0` (R211); Coprocessor Unimplemented in user mode (R43). An undescribed register number draws (log entry 8). -/
def execMfc0 (rt : Reg) (rd : BitVec 5) (s : State) : Result :=
  .next (if s.userMode then s.raise .coprocessorUnimplemented
    else if cp0Described rd then s.putX rt (s.readCp0 rd)
    else s.drawn.putX rt (s.readCp0 rd))

/-- `mtc0` (R212); Coprocessor Unimplemented in user mode (R43). -/
def execMtc0 (rt : Reg) (rd : BitVec 5) (s : State) : Result :=
  .next (if s.userMode then s.raise .coprocessorUnimplemented
    else (s.writeCp0 rd (s.readX rt)).advance)

/-- `eret` (R213): refused in a delay slot, decided at decode (R338; log entry 11); Coprocessor Unimplemented in user mode (R43). -/
def execEret (s : State) : Result :=
  if s.bd then .refused .transferInDelaySlot
  else .next (if s.userMode then s.raise .coprocessorUnimplemented else s.exceptionReturn)

end Sys2Proof.Machine
end

