-- ==== Sys2Proof/Machine/Dispatch.lean ====
section
/-! DEFINITION. One instruction's execution: one arm for each constructor of Instr. -/

namespace Sys2Proof.Machine

def exec (i : Instr) (s : State) : Host.Outcome State Fault Refusal :=
  match i with
  -- Arithmetic and logical instructions (spec/40_arithmetic_logical.md)
  | .add rd rs rt => Sys2Proof.Machine.execAdd rd rs rt s
  | .addi rt rs imm => Sys2Proof.Machine.execAddi rt rs imm s
  | .addiu rt rs imm => Sys2Proof.Machine.execAddiu rt rs imm s
  | .addu rd rs rt => Sys2Proof.Machine.execAddu rd rs rt s
  | .and rd rs rt => Sys2Proof.Machine.execAnd rd rs rt s
  | .andi rt rs imm => Sys2Proof.Machine.execAndi rt rs imm s
  | .nor rd rs rt => Sys2Proof.Machine.execNor rd rs rt s
  | .or rd rs rt => Sys2Proof.Machine.execOr rd rs rt s
  | .ori rt rs imm => Sys2Proof.Machine.execOri rt rs imm s
  | .sll rd rt shamt => Sys2Proof.Machine.execSll rd rt shamt s
  | .srl rd rt shamt => Sys2Proof.Machine.execSrl rd rt shamt s
  | .sra rd rt shamt => Sys2Proof.Machine.execSra rd rt shamt s
  | .sub rd rs rt => Sys2Proof.Machine.execSub rd rs rt s
  | .subu rd rs rt => Sys2Proof.Machine.execSubu rd rs rt s
  | .xor rd rs rt => Sys2Proof.Machine.execXor rd rs rt s
  | .xori rt rs imm => Sys2Proof.Machine.execXori rt rs imm s
  | .sllv rd rt rs => Sys2Proof.Machine.execSllv rd rt rs s
  | .srlv rd rt rs => Sys2Proof.Machine.execSrlv rd rt rs s
  | .srav rd rt rs => Sys2Proof.Machine.execSrav rd rt rs s
  | .movz rd rs rt => Sys2Proof.Machine.execMovz rd rs rt s
  | .movn rd rs rt => Sys2Proof.Machine.execMovn rd rs rt s
  -- Constant-manipulating instruction (spec/41_constant_manipulating.md)
  | .lui rt imm => Sys2Proof.Machine.execLui rt imm s
  -- Comparison instructions (spec/42_comparison.md)
  | .slt rd rs rt => Sys2Proof.Machine.execSlt rd rs rt s
  | .sltu rd rs rt => Sys2Proof.Machine.execSltu rd rs rt s
  | .slti rt rs imm => Sys2Proof.Machine.execSlti rt rs imm s
  | .sltiu rt rs imm => Sys2Proof.Machine.execSltiu rt rs imm s
  -- Branch instructions (spec/43_branch.md)
  | .bc1f cc imm => Sys2Proof.Machine.execBc1f cc imm s
  | .bc1t cc imm => Sys2Proof.Machine.execBc1t cc imm s
  | .beq rs rt imm => Sys2Proof.Machine.execBeq rs rt imm s
  | .bgez rs imm => Sys2Proof.Machine.execBgez rs imm s
  | .bgezal rs imm => Sys2Proof.Machine.execBgezal rs imm s
  | .bgtz rs imm => Sys2Proof.Machine.execBgtz rs imm s
  | .blez rs imm => Sys2Proof.Machine.execBlez rs imm s
  | .bltzal rs imm => Sys2Proof.Machine.execBltzal rs imm s
  | .bltz rs imm => Sys2Proof.Machine.execBltz rs imm s
  | .bne rs rt imm => Sys2Proof.Machine.execBne rs rt imm s
  -- Jump instructions (spec/44_jump.md)
  | .j address => Sys2Proof.Machine.execJ address s
  | .jal address => Sys2Proof.Machine.execJal address s
  | .jr rs => Sys2Proof.Machine.execJr rs s
  | .jalr rd rs => Sys2Proof.Machine.execJalr rd rs s
  -- Trap and system instructions (spec/45_trap.md)
  | .teq rs rt code => Sys2Proof.Machine.execTeq rs rt code s
  | .teqi rs imm => Sys2Proof.Machine.execTeqi rs imm s
  | .tne rs rt code => Sys2Proof.Machine.execTne rs rt code s
  | .tnei rs imm => Sys2Proof.Machine.execTnei rs imm s
  | .tge rs rt code => Sys2Proof.Machine.execTge rs rt code s
  | .tgeu rs rt code => Sys2Proof.Machine.execTgeu rs rt code s
  | .tlt rs rt code => Sys2Proof.Machine.execTlt rs rt code s
  | .tltu rs rt code => Sys2Proof.Machine.execTltu rs rt code s
  | .syscall code => Sys2Proof.Machine.execSyscall code s
  | .brk code => Sys2Proof.Machine.execBrk code s
  | .mfc0 rt rd => Sys2Proof.Machine.execMfc0 rt rd s
  | .mtc0 rt rd => Sys2Proof.Machine.execMtc0 rt rd s
  | .eret => Sys2Proof.Machine.execEret s
  -- Load and store instructions (spec/46_load_store.md)
  | .lb rt imm rs => Sys2Proof.Machine.execLb rt imm rs s
  | .lbu rt imm rs => Sys2Proof.Machine.execLbu rt imm rs s
  | .lh rt imm rs => Sys2Proof.Machine.execLh rt imm rs s
  | .lhu rt imm rs => Sys2Proof.Machine.execLhu rt imm rs s
  | .lw rt imm rs => Sys2Proof.Machine.execLw rt imm rs s
  | .sb rt imm rs => Sys2Proof.Machine.execSb rt imm rs s
  | .sh rt imm rs => Sys2Proof.Machine.execSh rt imm rs s
  | .sw rt imm rs => Sys2Proof.Machine.execSw rt imm rs s
  | .ll rt imm rs => Sys2Proof.Machine.execLl rt imm rs s
  | .sc rt imm rs => Sys2Proof.Machine.execSc rt imm rs s
  -- Multiply, divide and the HI/LO registers (spec/47_multiply_divide.md)
  | .mult rs rt => Sys2Proof.Machine.execMult rs rt s
  | .multu rs rt => Sys2Proof.Machine.execMultu rs rt s
  | .div rs rt => Sys2Proof.Machine.execDiv rs rt s
  | .divu rs rt => Sys2Proof.Machine.execDivu rs rt s
  | .mfhi rd => Sys2Proof.Machine.execMfhi rd s
  | .mflo rd => Sys2Proof.Machine.execMflo rd s
  | .mthi rs => Sys2Proof.Machine.execMthi rs s
  | .mtlo rs => Sys2Proof.Machine.execMtlo rs s
  -- Floating-point loads and stores (spec/48_floating_point.md section 4)
  | .lwc1 ft imm rs => Sys2Proof.Machine.execLwc1 ft imm rs s
  | .ldc1 ft imm rs => Sys2Proof.Machine.execLdc1 ft imm rs s
  | .swc1 ft imm rs => Sys2Proof.Machine.execSwc1 ft imm rs s
  | .sdc1 ft imm rs => Sys2Proof.Machine.execSdc1 ft imm rs s
  -- Floating-point instructions, single precision (spec/48_floating_point.md)
  | .addS fd fs ft => Sys2Proof.Machine.execAddS fd fs ft s
  | .subS fd fs ft => Sys2Proof.Machine.execSubS fd fs ft s
  | .mulS fd fs ft => Sys2Proof.Machine.execMulS fd fs ft s
  | .divS fd fs ft => Sys2Proof.Machine.execDivS fd fs ft s
  | .sqrtS fd fs => Sys2Proof.Machine.execSqrtS fd fs s
  | .absS fd fs => Sys2Proof.Machine.execAbsS fd fs s
  | .movS fd fs => Sys2Proof.Machine.execMovS fd fs s
  | .negS fd fs => Sys2Proof.Machine.execNegS fd fs s
  | .roundWS fd fs => Sys2Proof.Machine.execRoundWS fd fs s
  | .truncWS fd fs => Sys2Proof.Machine.execTruncWS fd fs s
  | .ceilWS fd fs => Sys2Proof.Machine.execCeilWS fd fs s
  | .floorWS fd fs => Sys2Proof.Machine.execFloorWS fd fs s
  | .movzS fd fs rt => Sys2Proof.Machine.execMovzS fd fs rt s
  | .movnS fd fs rt => Sys2Proof.Machine.execMovnS fd fs rt s
  | .cvtDS fd fs => Sys2Proof.Machine.execCvtDS fd fs s
  | .cvtWS fd fs => Sys2Proof.Machine.execCvtWS fd fs s
  -- Floating-point instructions, double precision (spec/48_floating_point.md)
  | .addD fd fs ft => Sys2Proof.Machine.execAddD fd fs ft s
  | .subD fd fs ft => Sys2Proof.Machine.execSubD fd fs ft s
  | .mulD fd fs ft => Sys2Proof.Machine.execMulD fd fs ft s
  | .divD fd fs ft => Sys2Proof.Machine.execDivD fd fs ft s
  | .sqrtD fd fs => Sys2Proof.Machine.execSqrtD fd fs s
  | .absD fd fs => Sys2Proof.Machine.execAbsD fd fs s
  | .movD fd fs => Sys2Proof.Machine.execMovD fd fs s
  | .negD fd fs => Sys2Proof.Machine.execNegD fd fs s
  | .roundWD fd fs => Sys2Proof.Machine.execRoundWD fd fs s
  | .truncWD fd fs => Sys2Proof.Machine.execTruncWD fd fs s
  | .ceilWD fd fs => Sys2Proof.Machine.execCeilWD fd fs s
  | .floorWD fd fs => Sys2Proof.Machine.execFloorWD fd fs s
  | .movzD fd fs rt => Sys2Proof.Machine.execMovzD fd fs rt s
  | .movnD fd fs rt => Sys2Proof.Machine.execMovnD fd fs rt s
  | .cvtSD fd fs => Sys2Proof.Machine.execCvtSD fd fs s
  | .cvtWD fd fs => Sys2Proof.Machine.execCvtWD fd fs s
  -- Floating-point comparisons (spec/48_floating_point.md section 3)
  | .cFS cc fs ft => Sys2Proof.Machine.execCFS cc fs ft s
  | .cUnS cc fs ft => Sys2Proof.Machine.execCUnS cc fs ft s
  | .cEqS cc fs ft => Sys2Proof.Machine.execCEqS cc fs ft s
  | .cUeqS cc fs ft => Sys2Proof.Machine.execCUeqS cc fs ft s
  | .cOltS cc fs ft => Sys2Proof.Machine.execCOltS cc fs ft s
  | .cUltS cc fs ft => Sys2Proof.Machine.execCUltS cc fs ft s
  | .cOleS cc fs ft => Sys2Proof.Machine.execCOleS cc fs ft s
  | .cUleS cc fs ft => Sys2Proof.Machine.execCUleS cc fs ft s
  | .cSfS cc fs ft => Sys2Proof.Machine.execCSfS cc fs ft s
  | .cNgleS cc fs ft => Sys2Proof.Machine.execCNgleS cc fs ft s
  | .cSeqS cc fs ft => Sys2Proof.Machine.execCSeqS cc fs ft s
  | .cNglS cc fs ft => Sys2Proof.Machine.execCNglS cc fs ft s
  | .cLtS cc fs ft => Sys2Proof.Machine.execCLtS cc fs ft s
  | .cNgeS cc fs ft => Sys2Proof.Machine.execCNgeS cc fs ft s
  | .cLeS cc fs ft => Sys2Proof.Machine.execCLeS cc fs ft s
  | .cNgtS cc fs ft => Sys2Proof.Machine.execCNgtS cc fs ft s
  | .cFD cc fs ft => Sys2Proof.Machine.execCFD cc fs ft s
  | .cUnD cc fs ft => Sys2Proof.Machine.execCUnD cc fs ft s
  | .cEqD cc fs ft => Sys2Proof.Machine.execCEqD cc fs ft s
  | .cUeqD cc fs ft => Sys2Proof.Machine.execCUeqD cc fs ft s
  | .cOltD cc fs ft => Sys2Proof.Machine.execCOltD cc fs ft s
  | .cUltD cc fs ft => Sys2Proof.Machine.execCUltD cc fs ft s
  | .cOleD cc fs ft => Sys2Proof.Machine.execCOleD cc fs ft s
  | .cUleD cc fs ft => Sys2Proof.Machine.execCUleD cc fs ft s
  | .cSfD cc fs ft => Sys2Proof.Machine.execCSfD cc fs ft s
  | .cNgleD cc fs ft => Sys2Proof.Machine.execCNgleD cc fs ft s
  | .cSeqD cc fs ft => Sys2Proof.Machine.execCSeqD cc fs ft s
  | .cNglD cc fs ft => Sys2Proof.Machine.execCNglD cc fs ft s
  | .cLtD cc fs ft => Sys2Proof.Machine.execCLtD cc fs ft s
  | .cNgeD cc fs ft => Sys2Proof.Machine.execCNgeD cc fs ft s
  | .cLeD cc fs ft => Sys2Proof.Machine.execCLeD cc fs ft s
  | .cNgtD cc fs ft => Sys2Proof.Machine.execCNgtD cc fs ft s
  -- Instructions the source names but does not define, and `sync` (spec/49_named_only.md)
  | .lwl rt imm rs => Sys2Proof.Machine.execLwl rt imm rs s
  | .lwr rt imm rs => Sys2Proof.Machine.execLwr rt imm rs s
  | .swl rt imm rs => Sys2Proof.Machine.execSwl rt imm rs s
  | .swr rt imm rs => Sys2Proof.Machine.execSwr rt imm rs s
  | .cache rt imm rs => Sys2Proof.Machine.execCache rt imm rs s
  | .pref rt imm rs => Sys2Proof.Machine.execPref rt imm rs s
  | .lwc2 rt imm rs => Sys2Proof.Machine.execLwc2 rt imm rs s
  | .ldc2 rt imm rs => Sys2Proof.Machine.execLdc2 rt imm rs s
  | .swc2 rt imm rs => Sys2Proof.Machine.execSwc2 rt imm rs s
  | .sdc2 rt imm rs => Sys2Proof.Machine.execSdc2 rt imm rs s
  | .sync => Sys2Proof.Machine.execSync s

end Sys2Proof.Machine
end

