-- ==== Sys2Proof/Machine/Fetch.lean ====
section
/-! DEFINITION. Fetching, and one instruction time (spec/10_state.md R27, spec/20_memory.md R57, R58, spec/60_exceptions.md
R338). -/

namespace Sys2Proof.Machine

/-- Fetch the word at `pc` (R57): alignment and user segment (Address Error, code 4), then `MEM_MAP` (Bus Error, code 6); the
fetch reads memory as it stands (R66). -/
def State.fetch (s : State) : Except Exception Word :=
  if s.pc.toNat % 4 ≠ 0 then .error (.addressErrorLoad s.pc)
  else if s.segmentBarred s.pc then .error (.addressErrorLoad s.pc)
  else if s.backed s.pc 4 then .ok (s.readWord s.pc)
  else .error .busErrorFetch

/-- Run a fetched word: decode it (R89), then execute it or treat it as unlisted (R98). -/
def runWord (w : Word) (s : State) : Result :=
  match decode w with
  | .ok i => exec i s
  | .error _ => unlistedWord w s

/-- What a step does in the present instant, in the order of R338: a takeable interrupt in place of the instruction (R341),
else the fetch's exception, else the instruction. -/
def State.present (s : State) : Result :=
  if s.interruptTakeable then .next (s.raise .interrupt)
  else match s.fetch with
    | .error e => .next (s.raise e)
    | .ok w => runWord w s

/-- Then one step of time passes (R384). -/
def ticked : Result → Result
  | .next s => .next s.tick
  | .fault r => .fault r
  | .refused r => .refused r

end Sys2Proof.Machine
end

