-- ==== Sys2Proof/Machine/Step.lean ====
section
/-! DEFINITION. One step of the machine (spec/10_state.md R27, spec/60_exceptions.md R341, spec/70_reset_and_hazards.md R384). -/

namespace Sys2Proof.Machine

/-- One step: an interrupt entry, a fetch's exception, or one instruction; then the next levels of the interrupt lines stand. -/
def step (s : State) : Host.Outcome State Fault Refusal := ticked s.present

/-- The state with one instruction word, its bits numbered as spec/opcode_table.json numbers them, stored big-endian where the
next step fetches: the word of R373 item 2 (log entry 7). -/
def State.withFetchWord (s : State) (nbits w : Nat) : State := s.writeWord s.pc (BitVec.ofNat 32 (w % 2 ^ nbits))

end Sys2Proof.Machine
end

