-- ==== Sys2Proof/OpcodeTable.lean ====
section
/-! DEFINITION. The opcode table (spec/opcode_table.json, spec/30_encoding.md R105): for statements about decoding only, the decoder
does not read it. -/

namespace Sys2Proof

/-- A row: a word `w` selects it when `w &&& mask = pattern` (R105). -/
structure OpcodeRow where
  mnemonic : String
  mask : Word
  pattern : Word
  deriving DecidableEq, Repr

/-- Rows 1 to 25. -/
def opcodeRows1 : List OpcodeRow :=
  [⟨"sll", 0xffe0003f#32, 0x00000000#32⟩, ⟨"srl", 0xffe0003f#32, 0x00000002#32⟩,
   ⟨"sra", 0xffe0003f#32, 0x00000003#32⟩, ⟨"sllv", 0xfc0007ff#32, 0x00000004#32⟩,
   ⟨"srlv", 0xfc0007ff#32, 0x00000006#32⟩, ⟨"srav", 0xfc0007ff#32, 0x00000007#32⟩,
   ⟨"jr", 0xfc1fffff#32, 0x00000008#32⟩, ⟨"jalr", 0xfc1f07ff#32, 0x00000009#32⟩,
   ⟨"movz", 0xfc0007ff#32, 0x0000000a#32⟩, ⟨"movn", 0xfc0007ff#32, 0x0000000b#32⟩,
   ⟨"syscall", 0xfc00003f#32, 0x0000000c#32⟩, ⟨"break", 0xfc00003f#32, 0x0000000d#32⟩,
   ⟨"sync", 0xffffffff#32, 0x0000000f#32⟩, ⟨"mfhi", 0xffff07ff#32, 0x00000010#32⟩,
   ⟨"mthi", 0xfc1fffff#32, 0x00000011#32⟩, ⟨"mflo", 0xffff07ff#32, 0x00000012#32⟩,
   ⟨"mtlo", 0xfc1fffff#32, 0x00000013#32⟩, ⟨"mult", 0xfc00ffff#32, 0x00000018#32⟩,
   ⟨"multu", 0xfc00ffff#32, 0x00000019#32⟩, ⟨"div", 0xfc00ffff#32, 0x0000001a#32⟩,
   ⟨"divu", 0xfc00ffff#32, 0x0000001b#32⟩, ⟨"add", 0xfc0007ff#32, 0x00000020#32⟩,
   ⟨"addu", 0xfc0007ff#32, 0x00000021#32⟩, ⟨"sub", 0xfc0007ff#32, 0x00000022#32⟩,
   ⟨"subu", 0xfc0007ff#32, 0x00000023#32⟩]

/-- Rows 26 to 50. -/
def opcodeRows2 : List OpcodeRow :=
  [⟨"and", 0xfc0007ff#32, 0x00000024#32⟩, ⟨"or", 0xfc0007ff#32, 0x00000025#32⟩,
   ⟨"xor", 0xfc0007ff#32, 0x00000026#32⟩, ⟨"nor", 0xfc0007ff#32, 0x00000027#32⟩,
   ⟨"slt", 0xfc0007ff#32, 0x0000002a#32⟩, ⟨"sltu", 0xfc0007ff#32, 0x0000002b#32⟩,
   ⟨"tge", 0xfc00003f#32, 0x00000030#32⟩, ⟨"tgeu", 0xfc00003f#32, 0x00000031#32⟩,
   ⟨"tlt", 0xfc00003f#32, 0x00000032#32⟩, ⟨"tltu", 0xfc00003f#32, 0x00000033#32⟩,
   ⟨"teq", 0xfc00003f#32, 0x00000034#32⟩, ⟨"tne", 0xfc00003f#32, 0x00000036#32⟩,
   ⟨"bltz", 0xfc1f0000#32, 0x04000000#32⟩, ⟨"bgez", 0xfc1f0000#32, 0x04010000#32⟩,
   ⟨"teqi", 0xfc1f0000#32, 0x040c0000#32⟩, ⟨"tnei", 0xfc1f0000#32, 0x040e0000#32⟩,
   ⟨"bltzal", 0xfc1f0000#32, 0x04100000#32⟩, ⟨"bgezal", 0xfc1f0000#32, 0x04110000#32⟩,
   ⟨"j", 0xfc000000#32, 0x08000000#32⟩, ⟨"jal", 0xfc000000#32, 0x0c000000#32⟩,
   ⟨"beq", 0xfc000000#32, 0x10000000#32⟩, ⟨"bne", 0xfc000000#32, 0x14000000#32⟩,
   ⟨"blez", 0xfc1f0000#32, 0x18000000#32⟩, ⟨"bgtz", 0xfc1f0000#32, 0x1c000000#32⟩,
   ⟨"addi", 0xfc000000#32, 0x20000000#32⟩]

/-- Rows 51 to 75. -/
def opcodeRows3 : List OpcodeRow :=
  [⟨"addiu", 0xfc000000#32, 0x24000000#32⟩, ⟨"slti", 0xfc000000#32, 0x28000000#32⟩,
   ⟨"sltiu", 0xfc000000#32, 0x2c000000#32⟩, ⟨"andi", 0xfc000000#32, 0x30000000#32⟩,
   ⟨"ori", 0xfc000000#32, 0x34000000#32⟩, ⟨"xori", 0xfc000000#32, 0x38000000#32⟩,
   ⟨"lui", 0xffe00000#32, 0x3c000000#32⟩, ⟨"lb", 0xfc000000#32, 0x80000000#32⟩,
   ⟨"lh", 0xfc000000#32, 0x84000000#32⟩, ⟨"lw", 0xfc000000#32, 0x8c000000#32⟩,
   ⟨"lbu", 0xfc000000#32, 0x90000000#32⟩, ⟨"lhu", 0xfc000000#32, 0x94000000#32⟩,
   ⟨"sb", 0xfc000000#32, 0xa0000000#32⟩, ⟨"sh", 0xfc000000#32, 0xa4000000#32⟩,
   ⟨"sw", 0xfc000000#32, 0xac000000#32⟩, ⟨"ll", 0xfc000000#32, 0xc0000000#32⟩,
   ⟨"sc", 0xfc000000#32, 0xe0000000#32⟩, ⟨"lwc1", 0xfc000000#32, 0xc4000000#32⟩,
   ⟨"ldc1", 0xfc000000#32, 0xd4000000#32⟩, ⟨"swc1", 0xfc000000#32, 0xe4000000#32⟩,
   ⟨"sdc1", 0xfc000000#32, 0xf4000000#32⟩, ⟨"lwl", 0xfc000000#32, 0x88000000#32⟩,
   ⟨"lwr", 0xfc000000#32, 0x98000000#32⟩, ⟨"swl", 0xfc000000#32, 0xa8000000#32⟩,
   ⟨"swr", 0xfc000000#32, 0xb8000000#32⟩]

/-- Rows 76 to 100. -/
def opcodeRows4 : List OpcodeRow :=
  [⟨"cache", 0xfc000000#32, 0xbc000000#32⟩, ⟨"lwc2", 0xfc000000#32, 0xc8000000#32⟩,
   ⟨"pref", 0xfc000000#32, 0xcc000000#32⟩, ⟨"ldc2", 0xfc000000#32, 0xd8000000#32⟩,
   ⟨"swc2", 0xfc000000#32, 0xe8000000#32⟩, ⟨"sdc2", 0xfc000000#32, 0xf8000000#32⟩,
   ⟨"mfc0", 0xffe007ff#32, 0x40000000#32⟩, ⟨"mtc0", 0xffe007ff#32, 0x40800000#32⟩,
   ⟨"eret", 0xffffffff#32, 0x42000018#32⟩, ⟨"bc1f", 0xffe30000#32, 0x45000000#32⟩,
   ⟨"bc1t", 0xffe30000#32, 0x45010000#32⟩, ⟨"add.s", 0xffe0003f#32, 0x46000000#32⟩,
   ⟨"sub.s", 0xffe0003f#32, 0x46000001#32⟩, ⟨"mul.s", 0xffe0003f#32, 0x46000002#32⟩,
   ⟨"div.s", 0xffe0003f#32, 0x46000003#32⟩, ⟨"sqrt.s", 0xffff003f#32, 0x46000004#32⟩,
   ⟨"abs.s", 0xffff003f#32, 0x46000005#32⟩, ⟨"mov.s", 0xffff003f#32, 0x46000006#32⟩,
   ⟨"neg.s", 0xffff003f#32, 0x46000007#32⟩, ⟨"round.w.s", 0xffff003f#32, 0x4600000c#32⟩,
   ⟨"trunc.w.s", 0xffff003f#32, 0x4600000d#32⟩, ⟨"ceil.w.s", 0xffff003f#32, 0x4600000e#32⟩,
   ⟨"floor.w.s", 0xffff003f#32, 0x4600000f#32⟩, ⟨"movz.s", 0xffe0003f#32, 0x46000012#32⟩,
   ⟨"movn.s", 0xffe0003f#32, 0x46000013#32⟩]

/-- Rows 101 to 125. -/
def opcodeRows5 : List OpcodeRow :=
  [⟨"cvt.d.s", 0xffff003f#32, 0x46000021#32⟩, ⟨"cvt.w.s", 0xffff003f#32, 0x46000024#32⟩,
   ⟨"c.f.s", 0xffe000ff#32, 0x46000030#32⟩, ⟨"c.un.s", 0xffe000ff#32, 0x46000031#32⟩,
   ⟨"c.eq.s", 0xffe000ff#32, 0x46000032#32⟩, ⟨"c.ueq.s", 0xffe000ff#32, 0x46000033#32⟩,
   ⟨"c.olt.s", 0xffe000ff#32, 0x46000034#32⟩, ⟨"c.ult.s", 0xffe000ff#32, 0x46000035#32⟩,
   ⟨"c.ole.s", 0xffe000ff#32, 0x46000036#32⟩, ⟨"c.ule.s", 0xffe000ff#32, 0x46000037#32⟩,
   ⟨"c.sf.s", 0xffe000ff#32, 0x46000038#32⟩, ⟨"c.ngle.s", 0xffe000ff#32, 0x46000039#32⟩,
   ⟨"c.seq.s", 0xffe000ff#32, 0x4600003a#32⟩, ⟨"c.ngl.s", 0xffe000ff#32, 0x4600003b#32⟩,
   ⟨"c.lt.s", 0xffe000ff#32, 0x4600003c#32⟩, ⟨"c.nge.s", 0xffe000ff#32, 0x4600003d#32⟩,
   ⟨"c.le.s", 0xffe000ff#32, 0x4600003e#32⟩, ⟨"c.ngt.s", 0xffe000ff#32, 0x4600003f#32⟩,
   ⟨"add.d", 0xffe0003f#32, 0x46200000#32⟩, ⟨"sub.d", 0xffe0003f#32, 0x46200001#32⟩,
   ⟨"mul.d", 0xffe0003f#32, 0x46200002#32⟩, ⟨"div.d", 0xffe0003f#32, 0x46200003#32⟩,
   ⟨"sqrt.d", 0xffff003f#32, 0x46200004#32⟩, ⟨"abs.d", 0xffff003f#32, 0x46200005#32⟩,
   ⟨"mov.d", 0xffff003f#32, 0x46200006#32⟩]

/-- Rows 126 to 150. -/
def opcodeRows6 : List OpcodeRow :=
  [⟨"neg.d", 0xffff003f#32, 0x46200007#32⟩, ⟨"round.w.d", 0xffff003f#32, 0x4620000c#32⟩,
   ⟨"trunc.w.d", 0xffff003f#32, 0x4620000d#32⟩, ⟨"ceil.w.d", 0xffff003f#32, 0x4620000e#32⟩,
   ⟨"floor.w.d", 0xffff003f#32, 0x4620000f#32⟩, ⟨"movz.d", 0xffe0003f#32, 0x46200012#32⟩,
   ⟨"movn.d", 0xffe0003f#32, 0x46200013#32⟩, ⟨"cvt.s.d", 0xffff003f#32, 0x46200020#32⟩,
   ⟨"cvt.w.d", 0xffff003f#32, 0x46200024#32⟩, ⟨"c.f.d", 0xffe000ff#32, 0x46200030#32⟩,
   ⟨"c.un.d", 0xffe000ff#32, 0x46200031#32⟩, ⟨"c.eq.d", 0xffe000ff#32, 0x46200032#32⟩,
   ⟨"c.ueq.d", 0xffe000ff#32, 0x46200033#32⟩, ⟨"c.olt.d", 0xffe000ff#32, 0x46200034#32⟩,
   ⟨"c.ult.d", 0xffe000ff#32, 0x46200035#32⟩, ⟨"c.ole.d", 0xffe000ff#32, 0x46200036#32⟩,
   ⟨"c.ule.d", 0xffe000ff#32, 0x46200037#32⟩, ⟨"c.sf.d", 0xffe000ff#32, 0x46200038#32⟩,
   ⟨"c.ngle.d", 0xffe000ff#32, 0x46200039#32⟩, ⟨"c.seq.d", 0xffe000ff#32, 0x4620003a#32⟩,
   ⟨"c.ngl.d", 0xffe000ff#32, 0x4620003b#32⟩, ⟨"c.lt.d", 0xffe000ff#32, 0x4620003c#32⟩,
   ⟨"c.nge.d", 0xffe000ff#32, 0x4620003d#32⟩, ⟨"c.le.d", 0xffe000ff#32, 0x4620003e#32⟩,
   ⟨"c.ngt.d", 0xffe000ff#32, 0x4620003f#32⟩]

/-- All 150 rows, in the order of the file. -/
def opcodeTable : List OpcodeRow :=
  opcodeRows1 ++ opcodeRows2 ++ opcodeRows3 ++ opcodeRows4 ++ opcodeRows5 ++ opcodeRows6

/-- The mnemonic of an instruction as its row has it. -/
def Instr.mnemonic : Instr → String
  | .add _ _ _ => "add"
  | .addi _ _ _ => "addi"
  | .addiu _ _ _ => "addiu"
  | .addu _ _ _ => "addu"
  | .and _ _ _ => "and"
  | .andi _ _ _ => "andi"
  | .nor _ _ _ => "nor"
  | .or _ _ _ => "or"
  | .ori _ _ _ => "ori"
  | .sll _ _ _ => "sll"
  | .srl _ _ _ => "srl"
  | .sra _ _ _ => "sra"
  | .sub _ _ _ => "sub"
  | .subu _ _ _ => "subu"
  | .xor _ _ _ => "xor"
  | .xori _ _ _ => "xori"
  | .sllv _ _ _ => "sllv"
  | .srlv _ _ _ => "srlv"
  | .srav _ _ _ => "srav"
  | .movz _ _ _ => "movz"
  | .movn _ _ _ => "movn"
  | .lui _ _ => "lui"
  | .slt _ _ _ => "slt"
  | .sltu _ _ _ => "sltu"
  | .slti _ _ _ => "slti"
  | .sltiu _ _ _ => "sltiu"
  | .bc1f _ _ => "bc1f"
  | .bc1t _ _ => "bc1t"
  | .beq _ _ _ => "beq"
  | .bgez _ _ => "bgez"
  | .bgezal _ _ => "bgezal"
  | .bgtz _ _ => "bgtz"
  | .blez _ _ => "blez"
  | .bltzal _ _ => "bltzal"
  | .bltz _ _ => "bltz"
  | .bne _ _ _ => "bne"
  | .j _ => "j"
  | .jal _ => "jal"
  | .jr _ => "jr"
  | .jalr _ _ => "jalr"
  | .teq _ _ _ => "teq"
  | .teqi _ _ => "teqi"
  | .tne _ _ _ => "tne"
  | .tnei _ _ => "tnei"
  | .tge _ _ _ => "tge"
  | .tgeu _ _ _ => "tgeu"
  | .tlt _ _ _ => "tlt"
  | .tltu _ _ _ => "tltu"
  | .syscall _ => "syscall"
  | .brk _ => "break"
  | .mfc0 _ _ => "mfc0"
  | .mtc0 _ _ => "mtc0"
  | .eret => "eret"
  | .lb _ _ _ => "lb"
  | .lbu _ _ _ => "lbu"
  | .lh _ _ _ => "lh"
  | .lhu _ _ _ => "lhu"
  | .lw _ _ _ => "lw"
  | .sb _ _ _ => "sb"
  | .sh _ _ _ => "sh"
  | .sw _ _ _ => "sw"
  | .ll _ _ _ => "ll"
  | .sc _ _ _ => "sc"
  | .mult _ _ => "mult"
  | .multu _ _ => "multu"
  | .div _ _ => "div"
  | .divu _ _ => "divu"
  | .mfhi _ => "mfhi"
  | .mflo _ => "mflo"
  | .mthi _ => "mthi"
  | .mtlo _ => "mtlo"
  | .lwc1 _ _ _ => "lwc1"
  | .ldc1 _ _ _ => "ldc1"
  | .swc1 _ _ _ => "swc1"
  | .sdc1 _ _ _ => "sdc1"
  | .addS _ _ _ => "add.s"
  | .subS _ _ _ => "sub.s"
  | .mulS _ _ _ => "mul.s"
  | .divS _ _ _ => "div.s"
  | .sqrtS _ _ => "sqrt.s"
  | .absS _ _ => "abs.s"
  | .movS _ _ => "mov.s"
  | .negS _ _ => "neg.s"
  | .roundWS _ _ => "round.w.s"
  | .truncWS _ _ => "trunc.w.s"
  | .ceilWS _ _ => "ceil.w.s"
  | .floorWS _ _ => "floor.w.s"
  | .movzS _ _ _ => "movz.s"
  | .movnS _ _ _ => "movn.s"
  | .cvtDS _ _ => "cvt.d.s"
  | .cvtWS _ _ => "cvt.w.s"
  | .addD _ _ _ => "add.d"
  | .subD _ _ _ => "sub.d"
  | .mulD _ _ _ => "mul.d"
  | .divD _ _ _ => "div.d"
  | .sqrtD _ _ => "sqrt.d"
  | .absD _ _ => "abs.d"
  | .movD _ _ => "mov.d"
  | .negD _ _ => "neg.d"
  | .roundWD _ _ => "round.w.d"
  | .truncWD _ _ => "trunc.w.d"
  | .ceilWD _ _ => "ceil.w.d"
  | .floorWD _ _ => "floor.w.d"
  | .movzD _ _ _ => "movz.d"
  | .movnD _ _ _ => "movn.d"
  | .cvtSD _ _ => "cvt.s.d"
  | .cvtWD _ _ => "cvt.w.d"
  | .cFS _ _ _ => "c.f.s"
  | .cUnS _ _ _ => "c.un.s"
  | .cEqS _ _ _ => "c.eq.s"
  | .cUeqS _ _ _ => "c.ueq.s"
  | .cOltS _ _ _ => "c.olt.s"
  | .cUltS _ _ _ => "c.ult.s"
  | .cOleS _ _ _ => "c.ole.s"
  | .cUleS _ _ _ => "c.ule.s"
  | .cSfS _ _ _ => "c.sf.s"
  | .cNgleS _ _ _ => "c.ngle.s"
  | .cSeqS _ _ _ => "c.seq.s"
  | .cNglS _ _ _ => "c.ngl.s"
  | .cLtS _ _ _ => "c.lt.s"
  | .cNgeS _ _ _ => "c.nge.s"
  | .cLeS _ _ _ => "c.le.s"
  | .cNgtS _ _ _ => "c.ngt.s"
  | .cFD _ _ _ => "c.f.d"
  | .cUnD _ _ _ => "c.un.d"
  | .cEqD _ _ _ => "c.eq.d"
  | .cUeqD _ _ _ => "c.ueq.d"
  | .cOltD _ _ _ => "c.olt.d"
  | .cUltD _ _ _ => "c.ult.d"
  | .cOleD _ _ _ => "c.ole.d"
  | .cUleD _ _ _ => "c.ule.d"
  | .cSfD _ _ _ => "c.sf.d"
  | .cNgleD _ _ _ => "c.ngle.d"
  | .cSeqD _ _ _ => "c.seq.d"
  | .cNglD _ _ _ => "c.ngl.d"
  | .cLtD _ _ _ => "c.lt.d"
  | .cNgeD _ _ _ => "c.nge.d"
  | .cLeD _ _ _ => "c.le.d"
  | .cNgtD _ _ _ => "c.ngt.d"
  | .lwl _ _ _ => "lwl"
  | .lwr _ _ _ => "lwr"
  | .swl _ _ _ => "swl"
  | .swr _ _ _ => "swr"
  | .cache _ _ _ => "cache"
  | .pref _ _ _ => "pref"
  | .lwc2 _ _ _ => "lwc2"
  | .ldc2 _ _ _ => "ldc2"
  | .swc2 _ _ _ => "swc2"
  | .sdc2 _ _ _ => "sdc2"
  | .sync => "sync"

end Sys2Proof
end

