-- ==== Sys2Proof/WellFormed.lean ====
section
/-! DEFINITION. Well-formed instructions: the operand combinations to which the spec gives a meaning. Every width is already
in the type of a field; what is checked is (1) that a register named as a double-precision operand is even (R257), (2) that
`jalr` links to another register than it jumps through (R194), (3) that `bgezal`/`bltzal` do not test register 31 (R170,
R173). An ill-formed instruction still decodes (R99, spec/95_test_vectors.md section 2.11); its meaning refuses it. -/

namespace Sys2Proof

/-- The register fields that name a double-precision operand (the list of R257). -/
def Instr.doubleRegs : Instr → List FReg
  | .add _ _ _ => []
  | .addi _ _ _ => []
  | .addiu _ _ _ => []
  | .addu _ _ _ => []
  | .and _ _ _ => []
  | .andi _ _ _ => []
  | .nor _ _ _ => []
  | .or _ _ _ => []
  | .ori _ _ _ => []
  | .sll _ _ _ => []
  | .srl _ _ _ => []
  | .sra _ _ _ => []
  | .sub _ _ _ => []
  | .subu _ _ _ => []
  | .xor _ _ _ => []
  | .xori _ _ _ => []
  | .sllv _ _ _ => []
  | .srlv _ _ _ => []
  | .srav _ _ _ => []
  | .movz _ _ _ => []
  | .movn _ _ _ => []
  | .lui _ _ => []
  | .slt _ _ _ => []
  | .sltu _ _ _ => []
  | .slti _ _ _ => []
  | .sltiu _ _ _ => []
  | .bc1f _ _ => []
  | .bc1t _ _ => []
  | .beq _ _ _ => []
  | .bgez _ _ => []
  | .bgezal _ _ => []
  | .bgtz _ _ => []
  | .blez _ _ => []
  | .bltzal _ _ => []
  | .bltz _ _ => []
  | .bne _ _ _ => []
  | .j _ => []
  | .jal _ => []
  | .jr _ => []
  | .jalr _ _ => []
  | .teq _ _ _ => []
  | .teqi _ _ => []
  | .tne _ _ _ => []
  | .tnei _ _ => []
  | .tge _ _ _ => []
  | .tgeu _ _ _ => []
  | .tlt _ _ _ => []
  | .tltu _ _ _ => []
  | .syscall _ => []
  | .brk _ => []
  | .mfc0 _ _ => []
  | .mtc0 _ _ => []
  | .eret => []
  | .lb _ _ _ => []
  | .lbu _ _ _ => []
  | .lh _ _ _ => []
  | .lhu _ _ _ => []
  | .lw _ _ _ => []
  | .sb _ _ _ => []
  | .sh _ _ _ => []
  | .sw _ _ _ => []
  | .ll _ _ _ => []
  | .sc _ _ _ => []
  | .mult _ _ => []
  | .multu _ _ => []
  | .div _ _ => []
  | .divu _ _ => []
  | .mfhi _ => []
  | .mflo _ => []
  | .mthi _ => []
  | .mtlo _ => []
  | .lwc1 _ _ _ => []
  | .ldc1 ft _ _ => [ft]
  | .swc1 _ _ _ => []
  | .sdc1 ft _ _ => [ft]
  | .addS _ _ _ => []
  | .subS _ _ _ => []
  | .mulS _ _ _ => []
  | .divS _ _ _ => []
  | .sqrtS _ _ => []
  | .absS _ _ => []
  | .movS _ _ => []
  | .negS _ _ => []
  | .roundWS _ _ => []
  | .truncWS _ _ => []
  | .ceilWS _ _ => []
  | .floorWS _ _ => []
  | .movzS _ _ _ => []
  | .movnS _ _ _ => []
  | .cvtDS fd _ => [fd]
  | .cvtWS _ _ => []
  | .addD fd fs ft => [fd, fs, ft]
  | .subD fd fs ft => [fd, fs, ft]
  | .mulD fd fs ft => [fd, fs, ft]
  | .divD fd fs ft => [fd, fs, ft]
  | .sqrtD fd fs => [fd, fs]
  | .absD fd fs => [fd, fs]
  | .movD fd fs => [fd, fs]
  | .negD fd fs => [fd, fs]
  | .roundWD _ fs => [fs]
  | .truncWD _ fs => [fs]
  | .ceilWD _ fs => [fs]
  | .floorWD _ fs => [fs]
  | .movzD fd fs _ => [fd, fs]
  | .movnD fd fs _ => [fd, fs]
  | .cvtSD _ fs => [fs]
  | .cvtWD _ fs => [fs]
  | .cFS _ _ _ => []
  | .cUnS _ _ _ => []
  | .cEqS _ _ _ => []
  | .cUeqS _ _ _ => []
  | .cOltS _ _ _ => []
  | .cUltS _ _ _ => []
  | .cOleS _ _ _ => []
  | .cUleS _ _ _ => []
  | .cSfS _ _ _ => []
  | .cNgleS _ _ _ => []
  | .cSeqS _ _ _ => []
  | .cNglS _ _ _ => []
  | .cLtS _ _ _ => []
  | .cNgeS _ _ _ => []
  | .cLeS _ _ _ => []
  | .cNgtS _ _ _ => []
  | .cFD _ fs ft => [fs, ft]
  | .cUnD _ fs ft => [fs, ft]
  | .cEqD _ fs ft => [fs, ft]
  | .cUeqD _ fs ft => [fs, ft]
  | .cOltD _ fs ft => [fs, ft]
  | .cUltD _ fs ft => [fs, ft]
  | .cOleD _ fs ft => [fs, ft]
  | .cUleD _ fs ft => [fs, ft]
  | .cSfD _ fs ft => [fs, ft]
  | .cNgleD _ fs ft => [fs, ft]
  | .cSeqD _ fs ft => [fs, ft]
  | .cNglD _ fs ft => [fs, ft]
  | .cLtD _ fs ft => [fs, ft]
  | .cNgeD _ fs ft => [fs, ft]
  | .cLeD _ fs ft => [fs, ft]
  | .cNgtD _ fs ft => [fs, ft]
  | .lwl _ _ _ => []
  | .lwr _ _ _ => []
  | .swl _ _ _ => []
  | .swr _ _ _ => []
  | .cache _ _ _ => []
  | .pref _ _ _ => []
  | .lwc2 _ _ _ => []
  | .ldc2 _ _ _ => []
  | .swc2 _ _ _ => []
  | .sdc2 _ _ _ => []
  | .sync => []

/-- The forms R170, R173 and R194 refuse: the link register is also the register tested or jumped through. -/
def Instr.linkClash : Instr → Bool
  | .bgezal rs _ => rs == 31#5
  | .bltzal rs _ => rs == 31#5
  | .jalr rd rs => rd == rs
  | _ => false

/-- The spec gives the form a meaning (its operands are legal). -/
def Instr.wellFormed (i : Instr) : Bool := i.doubleRegs.all Machine.evenReg && !i.linkClash

end Sys2Proof
end

