-- ==== Sys2Proof/Safety.lean ====
section
/-! DEFINITION. The terms statements are made in: what a state transition keeps and writes (frames), what an exception entry
leaves (spec/60_exceptions.md R330), the words of the formats (spec/30_encoding.md R81 to R95), the values of floating-point
patterns (spec/48_floating_point.md R255), classes of instructions, and the invariant of the machine. None of these is used by
the machine itself. -/

namespace Sys2Proof.Machine

/-! ### Frames -/

/-- The parts of the state, as a program or the host can observe them. -/
inductive Part where
  | gpr
  | fpr
  | cc
  | hiLo
  | status
  /-- `Cause`, `EPC`, `BadVAddr` -/
  | excRegs
  | link
  | mem
  /-- the interrupt lines and the parameters -/
  | host
  /-- the model's count of free values drawn -/
  | draws
  deriving DecidableEq, Repr

/-- A part reads the same in two states. -/
def Part.same : Part → State → State → Prop
  | .gpr, s, t => ∀ r, t.readX r = s.readX r
  | .fpr, s, t => ∀ n, t.readF n = s.readF n
  | .cc, s, t => ∀ n, t.readCc n = s.readCc n
  | .hiLo, s, t => t.hi = s.hi ∧ t.lo = s.lo
  | .status, s, t => t.status = s.status
  | .excRegs, s, t => t.cause = s.cause ∧ t.epc = s.epc ∧ t.badVAddr = s.badVAddr
  | .link, s, t => t.llBit = s.llBit ∧ t.llAddr = s.llAddr
  | .mem, s, t => ∀ a, t.readByte a = s.readByte a
  | .host, s, t => t.irq = s.irq ∧ t.params = s.params
  | .draws, s, t => t.draws = s.draws

/-- Every part outside the list reads the same: `pc`, `npc` and `bd` are said apart, by `GoesOn` and `Delayed`. -/
def KeepsAllBut (changed : List Part) (s t : State) : Prop := ∀ p : Part, p ∉ changed → p.same s t

/-- Control goes on after an ordinary instruction (R27). -/
def GoesOn (s t : State) : Prop := t.pc = s.npc ∧ t.npc = s.npc + 4#32 ∧ t.bd = false

/-- Control after a branch or jump: the delay slot is next, then the target if taken, else the next word (R27, R162). -/
def Delayed (taken : Prop) (target : Word) (s t : State) : Prop :=
  t.pc = s.npc ∧ (taken → t.npc = target) ∧ (¬taken → t.npc = s.npc + 4#32) ∧ t.bd = true

/-- General register `r` receives `v`, register 0 still reads 0 (R21), no other general register changes. -/
def GprWrite (r : Reg) (v : Word) (s t : State) : Prop :=
  ∀ q, t.readX q = if q = r ∧ q ≠ 0#5 then v else s.readX q

/-- The whole effect of an instruction that only writes general register `r`. -/
def WritesX (r : Reg) (v : Word) (s t : State) : Prop :=
  KeepsAllBut [.gpr] s t ∧ GprWrite r v s t ∧ GoesOn s t

/-- The whole effect of an instruction that only writes floating-point register `n`. -/
def WritesF (n : FReg) (v : Word) (s t : State) : Prop :=
  KeepsAllBut [.fpr] s t ∧ (∀ q, t.readF q = if q = n then v else s.readF q) ∧ GoesOn s t

/-- The register of the pair of an even `n` that holds the more significant word of a double, and the other one: `f[n]` and
`f[n+1]` for `even_high`, this hardware's order, exchanged for `even_low` (R257, R5 `FPR_PAIR_ORDER`, C9; log entry 17). -/
def highReg (s : State) (n : FReg) : FReg := if s.params.pairOrder = .evenHigh then n else n + 1#5

def lowReg (s : State) (n : FReg) : FReg := if s.params.pairOrder = .evenHigh then n + 1#5 else n

/-- The double a pair holds (R257). -/
def pairValue (s : State) (n : FReg) : DWord := s.readF (highReg s n) ++ s.readF (lowReg s n)

/-- The whole effect of an instruction that only writes the double in the pair of an even `n` (R257). -/
def WritesD (n : FReg) (v : DWord) (s t : State) : Prop :=
  KeepsAllBut [.fpr] s t ∧
  (∀ q, t.readF q = if q = highReg s n then v.extractLsb' 32 32 else if q = lowReg s n then v.extractLsb' 0 32 else s.readF q) ∧
  GoesOn s t

/-- The whole effect of an instruction that only writes condition flag `n`. -/
def WritesCc (n : CcNum) (b : Bool) (s t : State) : Prop :=
  KeepsAllBut [.cc] s t ∧ (∀ q, t.readCc q = if q = n then b else s.readCc q) ∧ GoesOn s t

/-- The whole effect of an instruction that only writes `HI` and `LO`. -/
def WritesHiLo (h l : Word) (s t : State) : Prop :=
  KeepsAllBut [.hiLo] s t ∧ t.hi = h ∧ t.lo = l ∧ GoesOn s t

/-- The whole effect of an ordinary instruction that writes nothing. -/
def WritesNothing (s t : State) : Prop := KeepsAllBut [] s t ∧ GoesOn s t

/-- The bytes of memory after a store of the bytes `bs` at `a`, the first at `a` (R53); no other byte changes. -/
def storedByte (a : Word) (bs : List Byte) (s : State) (q : Word) : Byte :=
  if (q - a).toNat < bs.length then bs[(q - a).toNat]! else s.readByte q

/-- The whole effect of an instruction that only stores the bytes `bs` at `a`. -/
def Stores (a : Word) (bs : List Byte) (s t : State) : Prop :=
  KeepsAllBut [.mem] s t ∧ (∀ q, t.readByte q = storedByte a bs s q) ∧ GoesOn s t

/-- Byte `i` of a word, the most significant first. -/
def bytesOfWord (v : Word) : List Byte :=
  [v.extractLsb' 24 8, v.extractLsb' 16 8, v.extractLsb' 8 8, v.extractLsb' 0 8]

/-- What an exception entry leaves (R330; while `Status.EL` = 1, R337): `code` in `Cause.ExcCode`, the offending address in
`BadVAddr` if there is one, `EPC` and `Cause.BD` if `EL` was 0, `EL` set, the link broken, control at `EXC_VECTOR`; nothing else
changes. -/
def Entered (code : BitVec 5) (bad : Option Word) (s t : State) : Prop :=
  KeepsAllBut [.status, .excRegs, .link] s t ∧
  t.status = { s.status with el := true } ∧
  t.cause.excCode = code ∧
  (s.status.el = false → t.cause.bd = s.bd ∧ t.epc = if s.bd then s.pc - 4#32 else s.pc) ∧
  (s.status.el = true → t.cause.bd = s.cause.bd ∧ t.epc = s.epc) ∧
  t.badVAddr = bad.getD s.badVAddr ∧
  t.llBit = false ∧ t.llAddr = s.llAddr ∧
  t.pc = s.params.excVector ∧ t.npc = s.params.excVector + 4#32 ∧ t.bd = false

/-! ### A step -/

/-- An interrupt is takeable (R340): `IE` = 1, `EL` = 0, and one of the eight lines both asserted now and unmasked. -/
abbrev Takeable (s : State) : Prop :=
  s.status.ie = true ∧ s.status.el = false ∧ (s.irq.headD 0#8 &&& s.status.im) ≠ 0#8

/-- The word at `pc`: four bytes, the first the most significant (R51, R57). -/
def wordAtPc (s : State) : Word :=
  s.readByte s.pc ++ s.readByte (s.pc + 1#32) ++ s.readByte (s.pc + 2#32) ++ s.readByte (s.pc + 3#32)

/-- An outcome after which, if it is a next state, the interrupt lines have moved on by one step (R341, R384). -/
def linesMoveOn (r : Result) : Result :=
  match r with
  | .next t => .next { t with irq := t.irq.tail }
  | .fault r => .fault r
  | .refused r => .refused r

/-! ### Executing a word -/

/-- The word is the instruction `i`, and `i` runs to a next state with the property. -/
def Executes (w : Word) (i : Instr) (s : State) (post : State → Prop) : Prop :=
  decode w = .ok i ∧ ∃ t, exec i s = .next t ∧ post t

/-- The word is the instruction `i`, and `i` is refused for the reason. -/
def Refuses (w : Word) (i : Instr) (s : State) (r : Refusal) : Prop :=
  decode w = .ok i ∧ exec i s = .refused r

/-! ### Words of the formats -/

/-- R format with `opcode` = 0 (R81). -/
def rWord (rs rt rd shamt : BitVec 5) (funct : BitVec 6) : Word := 0#6 ++ rs ++ rt ++ rd ++ shamt ++ funct

/-- I format (R82). -/
def iWord (op : BitVec 6) (rs rt : BitVec 5) (imm : BitVec 16) : Word := op ++ rs ++ rt ++ imm

/-- J format (R83). -/
def jWord (op : BitVec 6) (address : BitVec 26) : Word := op ++ address

/-- FR format with `opcode` = 0x11 (R84). -/
def frWord (fmt ft fs fd : BitVec 5) (funct : BitVec 6) : Word := 0x11#6 ++ fmt ++ ft ++ fs ++ fd ++ funct

/-- A compare: word[10:8] = `cc`, word[7:6] = 0 (R88). -/
def compareWord (fmt ft fs : BitVec 5) (cc : CcNum) (funct : BitVec 6) : Word :=
  0x11#6 ++ fmt ++ ft ++ fs ++ cc ++ 0#2 ++ funct

/-- `bc1f` (`tf` = 0) and `bc1t` (`tf` = 1): word[20:18] = `cc`, word[17] = 0, word[16] = `tf` (R88). -/
def bc1Word (cc : CcNum) (tf : BitVec 1) (imm : BitVec 16) : Word := 0x11#6 ++ 0x08#5 ++ cc ++ 0#1 ++ tf ++ imm

/-- A register trap with its ignored 10-bit code field (R95). -/
def trapWord (rs rt : BitVec 5) (code : BitVec 10) (funct : BitVec 6) : Word := 0#6 ++ rs ++ rt ++ code ++ funct

/-- `syscall` and `break` with their ignored 20-bit code field (R95). -/
def codeWord (code : BitVec 20) (funct : BitVec 6) : Word := 0#6 ++ code ++ funct

/-- Coprocessor 0, word[10:0] = 0 (R94). -/
def cop0Word (sel rt rd : BitVec 5) : Word := 0x10#6 ++ sel ++ rt ++ rd ++ 0#11

/-! ### Addresses -/

/-- The effective address `x[rs] + sext_32(imm)`, modulo 2^32 (R216). -/
def dataAddr (s : State) (rs : Reg) (imm : BitVec 16) : Word := s.readX rs + BitVec.ofInt 32 imm.toInt

/-- The target of a branch: `pc + 4 + sext_32(imm) * 4`, modulo 2^32 (R86, R161). -/
def branchGoal (s : State) (imm : BitVec 16) : Word := s.pc + 4#32 + BitVec.ofInt 32 (imm.toInt * 4)

/-- User mode (R350). -/
abbrev InUserMode (s : State) : Prop := s.status.um = true ∧ s.status.el = false

/-- `USER_SEGMENT_CHECK` bars the address in this state (R63). -/
abbrev Barred (s : State) (a : Word) : Prop :=
  s.params.userSegmentCheck = true ∧ InUserMode s ∧ 2 ^ 31 ≤ a.toNat

/-- `MEM_MAP` backs the `n` bytes from `a` on (R58), every one of them where R225 says only the address (log entry 23). -/
abbrev Backed (s : State) (a : Word) (n : Nat) : Prop :=
  ∀ i < n, ∃ r ∈ s.params.memMap, r.base ≤ (a + BitVec.ofNat 32 i).toNat ∧ (a + BitVec.ofNat 32 i).toNat < r.base + r.size

/-- The events of an access of `n` bytes at `a`, in the order of R225: the Address Error with `code` when the address is not
aligned or is barred, the Bus Error when one of its bytes is not backed (log entry 23), else the access itself. -/
def Accesses (code : BitVec 5) (n : Nat) (a : Word) (s t : State) (done : Prop) : Prop :=
  if a.toNat % n ≠ 0 then Entered code (some a) s t
  else if Barred s a then Entered code (some a) s t
  else if ¬Backed s a n then Entered 7#5 none s t
  else done

/-! ### Floating-point values (R255) -/

/-- The value of a normalised pattern: `(-1)^S x (1 + Fraction) x 2^(Exponent - Bias)` (R255). -/
def Fmt.value (F : Fmt) (v : Nat) : ℚ :=
  (if F.neg v then -1 else 1) * (1 + (F.fracField v : ℚ) / 2 ^ F.frac) * (2 : ℚ) ^ ((F.expField v : ℤ) - F.bias)

/-- A normalised single or double (R255). -/
abbrev normalS (v : Word) : Prop := Fmt.single.normal v.toNat = true

abbrev normalD (v : DWord) : Prop := Fmt.double.normal v.toNat = true

/-- The values of normalised singles and doubles. -/
def valueS (v : Word) : ℚ := Fmt.single.value v.toNat

def valueD (v : DWord) : ℚ := Fmt.double.value v.toNat

/-- `n` is the integer nearest `v`, a tie going to the even integer (R279). -/
def NearestEven (v : ℚ) (n : ℤ) : Prop := |v - n| < 1 / 2 ∨ (|v - n| = 1 / 2 ∧ n % 2 = 0)

/-- `v` rounded toward zero (R279). -/
def towardZero (v : ℚ) : ℤ := if 0 ≤ v then ⌊v⌋ else ⌈v⌉

/-! ### What the instructions of a family leave -/

/-- A branch or jump that links nothing. -/
def Goes (taken : Prop) (target : Word) (s t : State) : Prop := KeepsAllBut [] s t ∧ Delayed taken target s t

/-- A branch or jump that links: register `r` receives the address after the delay slot, `pc + 8` (R192, C12). -/
def GoesLinking (r : Reg) (taken : Prop) (target : Word) (s t : State) : Prop :=
  KeepsAllBut [.gpr] s t ∧ GprWrite r (s.pc + 8#32) s t ∧ Delayed taken target s t

/-- A conditional trap (R200). -/
def TrapsIf (c : Prop) (s t : State) : Prop := (c → Entered 13#5 none s t) ∧ (¬c → WritesNothing s t)

/-- An `sc` that fails: no store, `x[rt]` receives 0, the link is cleared (R229). -/
def ScFails (rt : Reg) (s t : State) : Prop :=
  KeepsAllBut [.gpr, .link] s t ∧ GprWrite rt 0#32 s t ∧ t.llBit = false ∧ t.llAddr = s.llAddr ∧ GoesOn s t

/-- An `sc` that succeeds: the word is stored, `x[rt]` receives 1, the link is cleared; with an unbacked address, the Bus Error
instead (R229). -/
def ScSucceeds (rt : Reg) (a : Word) (s t : State) : Prop :=
  if ¬Backed s a 4 then Entered 7#5 none s t
  else KeepsAllBut [.gpr, .mem, .link] s t ∧ GprWrite rt 1#32 s t ∧
    (∀ q, t.readByte q = storedByte a (bytesOfWord (s.readX rt)) s q) ∧
    t.llBit = false ∧ t.llAddr = s.llAddr ∧ GoesOn s t

/-- A result of `FP_NUMERICS` is delivered: written, or Floating Point Exception, code 15 (R258). -/
def DeliversF (n : FReg) (r : FpResult Word) (s t : State) : Prop :=
  match r with
  | .value v => WritesF n v s t
  | .fpe => Entered 15#5 none s t

def DeliversD (n : FReg) (r : FpResult DWord) (s t : State) : Prop :=
  match r with
  | .value v => WritesD n v s t
  | .fpe => Entered 15#5 none s t

def DeliversCc (n : CcNum) (r : FpResult Bool) (s t : State) : Prop :=
  match r with
  | .value b => WritesCc n b s t
  | .fpe => Entered 15#5 none s t

/-- The register can name a double (R257). -/
abbrev IsEven (n : FReg) : Prop := n.toNat % 2 = 0

/-- A function of `FP_NUMERICS` on two singles obeys law 1 for the operation `op` on values (R258). -/
def Law1S (op : ℚ → ℚ → ℚ) (f : Word → Word → FpResult Word) : Prop :=
  ∀ a b r, normalS a → normalS b → normalS r → op (valueS a) (valueS b) = valueS r → f a b = .value r

/-- Law 1 on two doubles (R258). -/
def Law1D (op : ℚ → ℚ → ℚ) (f : DWord → DWord → FpResult DWord) : Prop :=
  ∀ a b r, normalD a → normalD b → normalD r → op (valueD a) (valueD b) = valueD r → f a b = .value r

/-- The truth of a compare condition on two values (R270), `unordered` being false. -/
abbrev CondTrue (cond : BitVec 4) (x y : ℚ) : Prop :=
  (cond.getLsbD 2 = true ∧ x < y) ∨ (cond.getLsbD 1 = true ∧ x = y)

/-- A conversion of singles to 32-bit integers with a fixed rounding obeys law 3 (R258, R279): `rounds v n` says that `n` is `v`
rounded. -/
def Law3S (rounds : ℚ → ℤ → Prop) (f : Word → FpResult Word) : Prop :=
  (∀ a n, normalS a → rounds (valueS a) n → -2 ^ 31 ≤ n → n ≤ 2 ^ 31 - 1 → f a = .value (BitVec.ofInt 32 n)) ∧
  ∀ a, Fmt.single.zero a.toNat = true → f a = .value 0#32

/-- Law 3 for doubles (R258, R279). -/
def Law3D (rounds : ℚ → ℤ → Prop) (f : DWord → FpResult Word) : Prop :=
  (∀ a n, normalD a → rounds (valueD a) n → -2 ^ 31 ≤ n → n ≤ 2 ^ 31 - 1 → f a = .value (BitVec.ofInt 32 n)) ∧
  ∀ a, Fmt.double.zero a.toNat = true → f a = .value 0#32

/-- A NaN: `Exponent` all ones, `Fraction` not 0 (R255). -/
abbrev NanS (v : Word) : Prop := v.extractLsb' 23 8 = 0xff#8 ∧ v.extractLsb' 0 23 ≠ 0#23

abbrev NanD (v : DWord) : Prop := v.extractLsb' 52 11 = 0x7ff#11 ∧ v.extractLsb' 0 52 ≠ 0#52

/-! ### The invariant -/

/-- What every step keeps: memory in its canonical form; `Cause.ExcCode` one of the codes of R321 (R39), given that it was one
before; and, outside a delay slot, `npc` the word after `pc` (R27). -/
structure MachineInv (s : State) : Prop where
  memory : s.mem.wf
  excCode : s.cause.excCode ∈ [0#5, 4#5, 5#5, 6#5, 7#5, 8#5, 9#5, 10#5, 11#5, 12#5, 13#5, 15#5]
  straight : s.bd = false → s.npc = s.pc + 4#32

end Sys2Proof.Machine

namespace Sys2Proof

/-! ### Classes of instructions -/

/-- The branches, the jumps and `eret`: what may not stand in a delay slot (R30, R213). -/
def Instr.transfersControl : Instr → Bool
  | .bc1f _ _ | .bc1t _ _ | .beq _ _ _ | .bgez _ _ | .bgezal _ _ | .bgtz _ _ | .blez _ _ | .bltzal _ _ | .bltz _ _
  | .bne _ _ _ | .j _ | .jal _ | .jr _ | .jalr _ _ | .eret => true
  | _ => false

/-- The ten instructions the spec names and does not define (R300). -/
def Instr.namedOnly : Instr → Bool
  | .lwl _ _ _ | .lwr _ _ _ | .swl _ _ _ | .swr _ _ _ | .cache _ _ _ | .pref _ _ _ | .lwc2 _ _ _ | .ldc2 _ _ _
  | .swc2 _ _ _ | .sdc2 _ _ _ => true
  | _ => false

/-- The instructions that read or write the coprocessor-0 registers: what user mode may not run (R43). -/
def Instr.privileged : Instr → Bool
  | .mfc0 _ _ | .mtc0 _ _ | .eret => true
  | _ => false

/-- The instructions that write `HI` or `LO` (R31). -/
def Instr.writesHiLo : Instr → Bool
  | .mult _ _ | .multu _ _ | .div _ _ | .divu _ _ | .mthi _ | .mtlo _ => true
  | _ => false

/-- The stores: the instructions that write memory (R59). -/
def Instr.stores : Instr → Bool
  | .sb _ _ _ | .sh _ _ _ | .sw _ _ _ | .sc _ _ _ | .swc1 _ _ _ | .sdc1 _ _ _ => true
  | _ => false

/-- The thirty-two floating-point compares: the instructions that write a condition flag (R34). -/
def Instr.compares : Instr → Bool
  | .cFS _ _ _ | .cUnS _ _ _ | .cEqS _ _ _ | .cUeqS _ _ _ | .cOltS _ _ _ | .cUltS _ _ _ | .cOleS _ _ _ | .cUleS _ _ _
  | .cSfS _ _ _ | .cNgleS _ _ _ | .cSeqS _ _ _ | .cNglS _ _ _ | .cLtS _ _ _ | .cNgeS _ _ _ | .cLeS _ _ _ | .cNgtS _ _ _
  | .cFD _ _ _ | .cUnD _ _ _ | .cEqD _ _ _ | .cUeqD _ _ _ | .cOltD _ _ _ | .cUltD _ _ _ | .cOleD _ _ _ | .cUleD _ _ _
  | .cSfD _ _ _ | .cNgleD _ _ _ | .cSeqD _ _ _ | .cNglD _ _ _ | .cLtD _ _ _ | .cNgeD _ _ _ | .cLeD _ _ _
  | .cNgtD _ _ _ => true
  | _ => false

/-- The words of the floating-point family (R256): `opcode` 0x11, and `lwc1`, `ldc1`, `swc1`, `sdc1`. -/
def coprocessor1Word (w : Word) : Bool :=
  let op := w.extractLsb' 26 6
  op == 0x11#6 || op == 0x31#6 || op == 0x35#6 || op == 0x39#6 || op == 0x3d#6

end Sys2Proof
end

