-- ==== Sys2Proof/Certificates/Slice0/Obligations.lean ====
section
/-! DEFINITION. The statements for the provers, in the order of the spec's files. Each says in its docstring which rules of
spec/ it formalises; a statement that rests on a choice of the model names the log entry. The terms are those of Safety.lean. -/

section

open Sys2Proof Sys2Proof.Machine

/-! ### Arithmetic, logical, constant and comparison instructions -/

/-- R115, R116, R118, R119, R125, R126, R131, R132. -/
def Obligations.RegisterArithmeticAndLogic : Prop :=
  ∀ (rd rs rt : Reg) (s : State),
    Executes (rWord rs rt rd 0#5 0x21#6) (.addu rd rs rt) s (WritesX rd (s.readX rs + s.readX rt) s) ∧
    Executes (rWord rs rt rd 0#5 0x24#6) (.and rd rs rt) s (WritesX rd (s.readX rs &&& s.readX rt) s) ∧
    Executes (rWord rs rt rd 0#5 0x27#6) (.nor rd rs rt) s (WritesX rd (~~~(s.readX rs ||| s.readX rt)) s) ∧
    Executes (rWord rs rt rd 0#5 0x25#6) (.or rd rs rt) s (WritesX rd (s.readX rs ||| s.readX rt) s) ∧
    Executes (rWord rs rt rd 0#5 0x23#6) (.subu rd rs rt) s (WritesX rd (s.readX rs - s.readX rt) s) ∧
    Executes (rWord rs rt rd 0#5 0x26#6) (.xor rd rs rt) s (WritesX rd (s.readX rs ^^^ s.readX rt) s) ∧
    Executes (rWord rs rt rd 0#5 0x0a#6) (.movz rd rs rt) s
      (fun t => if s.readX rt = 0#32 then WritesX rd (s.readX rs) s t else WritesNothing s t) ∧
    Executes (rWord rs rt rd 0#5 0x0b#6) (.movn rd rs rt) s
      (fun t => if s.readX rt = 0#32 then WritesNothing s t else WritesX rd (s.readX rs) s t)

/-- R114, R117, R120, R127, R140: `addiu` sign-extends, the logical ones zero-extend, `lui` places its immediate. -/
def Obligations.ImmediateArithmeticAndLogic : Prop :=
  ∀ (rt rs : Reg) (imm : BitVec 16) (s : State),
    Executes (iWord 0x09#6 rs rt imm) (.addiu rt rs imm) s (WritesX rt (s.readX rs + BitVec.ofInt 32 imm.toInt) s) ∧
    Executes (iWord 0x0c#6 rs rt imm) (.andi rt rs imm) s (WritesX rt (s.readX rs &&& (0#16 ++ imm)) s) ∧
    Executes (iWord 0x0d#6 rs rt imm) (.ori rt rs imm) s (WritesX rt (s.readX rs ||| (0#16 ++ imm)) s) ∧
    Executes (iWord 0x0e#6 rs rt imm) (.xori rt rs imm) s (WritesX rt (s.readX rs ^^^ (0#16 ++ imm)) s) ∧
    Executes (iWord 0x0f#6 0#5 rt imm) (.lui rt imm) s (WritesX rt (BitVec.ofNat 32 (imm.toNat * 65536)) s)

/-- R121, R122, R123, R128, R129, R130: the shifts, as arithmetic on the value shifted; a variable amount is the low five bits of
`x[rs]`. -/
def Obligations.Shifts : Prop :=
  ∀ (rd rt rs : Reg) (shamt : BitVec 5) (s : State),
    let v := s.readX rt
    let n := (s.readX rs).toNat % 32
    Executes (rWord 0#5 rt rd shamt 0x00#6) (.sll rd rt shamt) s
      (WritesX rd (BitVec.ofNat 32 (v.toNat * 2 ^ shamt.toNat)) s) ∧
    Executes (rWord 0#5 rt rd shamt 0x02#6) (.srl rd rt shamt) s
      (WritesX rd (BitVec.ofNat 32 (v.toNat / 2 ^ shamt.toNat)) s) ∧
    Executes (rWord 0#5 rt rd shamt 0x03#6) (.sra rd rt shamt) s
      (WritesX rd (BitVec.ofInt 32 (v.toInt / 2 ^ shamt.toNat)) s) ∧
    Executes (rWord rs rt rd 0#5 0x04#6) (.sllv rd rt rs) s (WritesX rd (BitVec.ofNat 32 (v.toNat * 2 ^ n)) s) ∧
    Executes (rWord rs rt rd 0#5 0x06#6) (.srlv rd rt rs) s (WritesX rd (BitVec.ofNat 32 (v.toNat / 2 ^ n)) s) ∧
    Executes (rWord rs rt rd 0#5 0x07#6) (.srav rd rt rs) s (WritesX rd (BitVec.ofInt 32 (v.toInt / 2 ^ n)) s)

/-- R112, R113, R124: the exact sum or difference decides; out of range, Overflow (code 12) and nothing is written. -/
def Obligations.OverflowArithmetic : Prop :=
  ∀ (rd rs rt : Reg) (imm : BitVec 16) (s : State),
    Executes (rWord rs rt rd 0#5 0x20#6) (.add rd rs rt) s (fun t =>
      if -2 ^ 31 ≤ (s.readX rs).toInt + (s.readX rt).toInt ∧ (s.readX rs).toInt + (s.readX rt).toInt ≤ 2 ^ 31 - 1
      then WritesX rd (s.readX rs + s.readX rt) s t else Entered 12#5 none s t) ∧
    Executes (iWord 0x08#6 rs rt imm) (.addi rt rs imm) s (fun t =>
      if -2 ^ 31 ≤ (s.readX rs).toInt + imm.toInt ∧ (s.readX rs).toInt + imm.toInt ≤ 2 ^ 31 - 1
      then WritesX rt (s.readX rs + BitVec.ofInt 32 imm.toInt) s t else Entered 12#5 none s t) ∧
    Executes (rWord rs rt rd 0#5 0x22#6) (.sub rd rs rt) s (fun t =>
      if -2 ^ 31 ≤ (s.readX rs).toInt - (s.readX rt).toInt ∧ (s.readX rs).toInt - (s.readX rt).toInt ≤ 2 ^ 31 - 1
      then WritesX rd (s.readX rs - s.readX rt) s t else Entered 12#5 none s t)

/-- R111: the two forms of the overflow condition agree. -/
def Obligations.OverflowIsASignChange : Prop :=
  ∀ a b : Word,
    (addOverflows a b = true ↔ a.msb = b.msb ∧ (a + b).msb ≠ a.msb) ∧
    (subOverflows a b = true ↔ a.msb ≠ b.msb ∧ (a - b).msb ≠ a.msb)

/-- R145, R146, R147, R148. -/
def Obligations.Comparisons : Prop :=
  ∀ (rd rs rt : Reg) (imm : BitVec 16) (s : State),
    Executes (rWord rs rt rd 0#5 0x2a#6) (.slt rd rs rt) s
      (WritesX rd (if (s.readX rs).toInt < (s.readX rt).toInt then 1#32 else 0#32) s) ∧
    Executes (rWord rs rt rd 0#5 0x2b#6) (.sltu rd rs rt) s
      (WritesX rd (if (s.readX rs).toNat < (s.readX rt).toNat then 1#32 else 0#32) s) ∧
    Executes (iWord 0x0a#6 rs rt imm) (.slti rt rs imm) s
      (WritesX rt (if (s.readX rs).toInt < imm.toInt then 1#32 else 0#32) s) ∧
    Executes (iWord 0x0b#6 rs rt imm) (.sltiu rt rs imm) s
      (WritesX rt (if (s.readX rs).toNat < (BitVec.ofInt 32 imm.toInt).toNat then 1#32 else 0#32) s)

/-! ### Branches and jumps -/

/-- R168, R169, R171, R172, R174, R175, with the target of R161 and the delay of R162. -/
def Obligations.ConditionalBranches : Prop :=
  ∀ (rs rt : Reg) (imm : BitVec 16) (s : State), s.bd = false →
    Executes (iWord 0x04#6 rs rt imm) (.beq rs rt imm) s (Goes (s.readX rs = s.readX rt) (branchGoal s imm) s) ∧
    Executes (iWord 0x05#6 rs rt imm) (.bne rs rt imm) s (Goes (s.readX rs ≠ s.readX rt) (branchGoal s imm) s) ∧
    Executes (iWord 0x01#6 rs 0x01#5 imm) (.bgez rs imm) s (Goes (0 ≤ (s.readX rs).toInt) (branchGoal s imm) s) ∧
    Executes (iWord 0x07#6 rs 0x00#5 imm) (.bgtz rs imm) s (Goes (0 < (s.readX rs).toInt) (branchGoal s imm) s) ∧
    Executes (iWord 0x06#6 rs 0x00#5 imm) (.blez rs imm) s (Goes ((s.readX rs).toInt ≤ 0) (branchGoal s imm) s) ∧
    Executes (iWord 0x01#6 rs 0x00#5 imm) (.bltz rs imm) s (Goes ((s.readX rs).toInt < 0) (branchGoal s imm) s)

/-- R170, R173: the link is written taken or not; `rs` = 31 is refused. -/
def Obligations.LinkingBranches : Prop :=
  ∀ (rs : Reg) (imm : BitVec 16) (s : State), s.bd = false →
    if rs = 31#5 then
      Refuses (iWord 0x01#6 rs 0x11#5 imm) (.bgezal rs imm) s .linkClash ∧
      Refuses (iWord 0x01#6 rs 0x10#5 imm) (.bltzal rs imm) s .linkClash
    else
      Executes (iWord 0x01#6 rs 0x11#5 imm) (.bgezal rs imm) s
        (GoesLinking 31#5 (0 ≤ (s.readX rs).toInt) (branchGoal s imm) s) ∧
      Executes (iWord 0x01#6 rs 0x10#5 imm) (.bltzal rs imm) s
        (GoesLinking 31#5 ((s.readX rs).toInt < 0) (branchGoal s imm) s)

/-- R166, R167: on a condition flag; with no floating-point unit, Coprocessor Unimplemented (R256). -/
def Obligations.ConditionFlagBranches : Prop :=
  ∀ (cc : CcNum) (imm : BitVec 16) (s : State),
    (s.params.hasFpu = true → s.bd = false →
      Executes (bc1Word cc 0#1 imm) (.bc1f cc imm) s (Goes (s.readCc cc = false) (branchGoal s imm) s) ∧
      Executes (bc1Word cc 1#1 imm) (.bc1t cc imm) s (Goes (s.readCc cc = true) (branchGoal s imm) s)) ∧
    (s.params.hasFpu = false →
      Executes (bc1Word cc 0#1 imm) (.bc1f cc imm) s (Entered 11#5 none s) ∧
      Executes (bc1Word cc 1#1 imm) (.bc1t cc imm) s (Entered 11#5 none s))

/-- R191, R192, R193, R194: the target of `j` and `jal` is `{ (pc+4)[31:28], address, 2'b0 }`; a link is `pc + 8`; `jalr` with
`rd` = `rs` is refused. -/
def Obligations.Jumps : Prop :=
  ∀ (address : BitVec 26) (rd rs : Reg) (s : State), s.bd = false →
    Executes (jWord 0x02#6 address) (.j address) s
      (Goes True ((s.pc + 4#32).extractLsb' 28 4 ++ address ++ 0#2) s) ∧
    Executes (jWord 0x03#6 address) (.jal address) s
      (GoesLinking 31#5 True ((s.pc + 4#32).extractLsb' 28 4 ++ address ++ 0#2) s) ∧
    Executes (rWord rs 0#5 0#5 0#5 0x08#6) (.jr rs) s (Goes True (s.readX rs) s) ∧
    if rd = rs then Refuses (rWord rs 0#5 rd 0#5 0x09#6) (.jalr rd rs) s .linkClash
    else Executes (rWord rs 0#5 rd 0#5 0x09#6) (.jalr rd rs) s (GoesLinking rd True (s.readX rs) s)

/-- No branch, jump (R30) or `eret` (R213) runs in a delay slot. That this refusal comes first is the model's choice (log entry 11):
for `eret` in user mode, R338 puts refusals and code 11 on one line; for `bgezal`, `bltzal` with `rs` = 31 and `jalr` with `rd` =
`rs`, the spec names two refusals. (Without a floating-point unit `bc1f` and `bc1t` raise Coprocessor Unimplemented first, R256.) -/
def Obligations.TransfersRefusedInDelaySlot : Prop :=
  ∀ (i : Instr) (s : State), i.transfersControl = true → s.bd = true →
    (s.params.hasFpu = true ∨ ∀ cc imm, i ≠ .bc1f cc imm ∧ i ≠ .bc1t cc imm) →
    exec i s = .refused .transferInDelaySlot

/-! ### Traps and system instructions -/

/-- R201 to R208, R210, and R209 with `SYSCALL_IS_HOST_CALL` false; the code fields are ignored. That `syscall` is refused under
`SYSCALL_IS_HOST_CALL` is the model's choice: R209 and R374 leave its effect to the host (log entry 20). -/
def Obligations.TrapsSyscallAndBreak : Prop :=
  ∀ (rs rt : Reg) (code : BitVec 10) (code20 : BitVec 20) (imm : BitVec 16) (s : State),
    Executes (trapWord rs rt code 0x34#6) (.teq rs rt code) s (TrapsIf (s.readX rs = s.readX rt) s) ∧
    Executes (trapWord rs rt code 0x36#6) (.tne rs rt code) s (TrapsIf (s.readX rs ≠ s.readX rt) s) ∧
    Executes (trapWord rs rt code 0x30#6) (.tge rs rt code) s (TrapsIf ((s.readX rs).toInt ≥ (s.readX rt).toInt) s) ∧
    Executes (trapWord rs rt code 0x31#6) (.tgeu rs rt code) s (TrapsIf ((s.readX rs).toNat ≥ (s.readX rt).toNat) s) ∧
    Executes (trapWord rs rt code 0x32#6) (.tlt rs rt code) s (TrapsIf ((s.readX rs).toInt < (s.readX rt).toInt) s) ∧
    Executes (trapWord rs rt code 0x33#6) (.tltu rs rt code) s (TrapsIf ((s.readX rs).toNat < (s.readX rt).toNat) s) ∧
    Executes (iWord 0x01#6 rs 0x0c#5 imm) (.teqi rs imm) s (TrapsIf (s.readX rs = BitVec.ofInt 32 imm.toInt) s) ∧
    Executes (iWord 0x01#6 rs 0x0e#5 imm) (.tnei rs imm) s (TrapsIf (s.readX rs ≠ BitVec.ofInt 32 imm.toInt) s) ∧
    (s.params.syscallIsHostCall = false →
      Executes (codeWord code20 0x0c#6) (.syscall code20) s (Entered 8#5 none s)) ∧
    (s.params.syscallIsHostCall = true → Refuses (codeWord code20 0x0c#6) (.syscall code20) s .hostCall) ∧
    Executes (codeWord code20 0x0d#6) (.brk code20) s (Entered 9#5 none s)

/-- R211: the described registers by number; any other number gives some value (a draw), of which nothing is claimed; user mode
raises Coprocessor Unimplemented. -/
def Obligations.MoveFromControl : Prop :=
  ∀ (rt : Reg) (rd : BitVec 5) (s : State),
    Executes (cop0Word 0x00#5 rt rd) (.mfc0 rt rd) s (fun t =>
      if InUserMode s then Entered 11#5 none s t
      else if rd = 8#5 then WritesX rt s.badVAddr s t
      else if rd = 12#5 then
        WritesX rt (BitVec.ofNat 32 (s.status.im.toNat * 2 ^ 8 + s.status.um.toNat * 2 ^ 4 + s.status.el.toNat * 2
          + s.status.ie.toNat)) s t
      else if rd = 13#5 then
        WritesX rt (BitVec.ofNat 32 (s.cause.bd.toNat * 2 ^ 31 + (s.irq.headD 0#8).toNat * 2 ^ 8
          + s.cause.excCode.toNat * 2 ^ 2)) s t
      else if rd = 14#5 then WritesX rt s.epc s t
      else ∃ v, KeepsAllBut [.gpr, .draws] s t ∧ GprWrite rt v s t ∧ GoesOn s t)

/-- R212: `Status` takes its drawn bits, `EPC` the whole word; every other number ignores the write; user mode raises Coprocessor
Unimplemented. -/
def Obligations.MoveToControl : Prop :=
  ∀ (rt : Reg) (rd : BitVec 5) (s : State),
    Executes (cop0Word 0x04#5 rt rd) (.mtc0 rt rd) s (fun t =>
      if InUserMode s then Entered 11#5 none s t
      else if rd = 12#5 then
        KeepsAllBut [.status] s t ∧ GoesOn s t ∧
        t.status = { im := (s.readX rt).extractLsb' 8 8, um := (s.readX rt).getLsbD 4, el := (s.readX rt).getLsbD 1,
                     ie := (s.readX rt).getLsbD 0 }
      else if rd = 14#5 then
        KeepsAllBut [.excRegs] s t ∧ GoesOn s t ∧ t.cause = s.cause ∧ t.badVAddr = s.badVAddr ∧ t.epc = s.readX rt
      else WritesNothing s t)

/-- R213. That the refusal in a delay slot comes before the exception of user mode is the model's choice: R338 puts both on one line
(log entry 11). -/
def Obligations.ExceptionReturn : Prop :=
  ∀ s : State,
    if s.bd = true then Refuses 0x42000018#32 .eret s .transferInDelaySlot
    else Executes 0x42000018#32 .eret s (fun t =>
      if InUserMode s then Entered 11#5 none s t
      else KeepsAllBut [.status, .link] s t ∧ t.status = { s.status with el := false } ∧ t.llBit = false ∧
        t.llAddr = s.llAddr ∧ t.pc = s.epc ∧ t.npc = s.epc + 4#32 ∧ t.bd = false)

/-! ### Loads, stores and memory -/

/-- R217 to R221, with the order of events of R225: code 4 on a misaligned or barred address, code 7 on an unbacked one. That one
unbacked byte of the access is enough for code 7 is the model's deduction: R225 says only `addr` (log entry 23). -/
def Obligations.IntegerLoads : Prop :=
  ∀ (rt rs : Reg) (imm : BitVec 16) (s : State),
    let a := dataAddr s rs imm
    Executes (iWord 0x20#6 rs rt imm) (.lb rt imm rs) s (fun t => Accesses 4#5 1 a s t
      (WritesX rt (BitVec.ofInt 32 (s.readByte a).toInt) s t)) ∧
    Executes (iWord 0x24#6 rs rt imm) (.lbu rt imm rs) s (fun t => Accesses 4#5 1 a s t
      (WritesX rt (0#24 ++ s.readByte a) s t)) ∧
    Executes (iWord 0x21#6 rs rt imm) (.lh rt imm rs) s (fun t => Accesses 4#5 2 a s t
      (WritesX rt (BitVec.ofInt 32 (s.readByte a ++ s.readByte (a + 1#32) : BitVec 16).toInt) s t)) ∧
    Executes (iWord 0x25#6 rs rt imm) (.lhu rt imm rs) s (fun t => Accesses 4#5 2 a s t
      (WritesX rt (0#16 ++ s.readByte a ++ s.readByte (a + 1#32)) s t)) ∧
    Executes (iWord 0x23#6 rs rt imm) (.lw rt imm rs) s (fun t => Accesses 4#5 4 a s t
      (WritesX rt (s.readByte a ++ s.readByte (a + 1#32) ++ s.readByte (a + 2#32) ++ s.readByte (a + 3#32)) s t))

/-- R222, R223, R224, with the order of events of R225: the bytes stored, most significant first, and no other byte. That one
unbacked byte of the access is enough for code 7 is the model's deduction: R225 says only `addr` (log entry 23). -/
def Obligations.IntegerStores : Prop :=
  ∀ (rt rs : Reg) (imm : BitVec 16) (s : State),
    let a := dataAddr s rs imm
    let v := s.readX rt
    Executes (iWord 0x28#6 rs rt imm) (.sb rt imm rs) s (fun t => Accesses 5#5 1 a s t
      (Stores a [v.extractLsb' 0 8] s t)) ∧
    Executes (iWord 0x29#6 rs rt imm) (.sh rt imm rs) s (fun t => Accesses 5#5 2 a s t
      (Stores a [v.extractLsb' 8 8, v.extractLsb' 0 8] s t)) ∧
    Executes (iWord 0x2b#6 rs rt imm) (.sw rt imm rs) s (fun t => Accesses 5#5 4 a s t
      (Stores a (bytesOfWord v) s t))

/-- R228, with the order of events of R225. That one unbacked byte of the four is enough for code 7 is the model's deduction: R225
says only `addr` (log entry 23). -/
def Obligations.LoadLinked : Prop :=
  ∀ (rt rs : Reg) (imm : BitVec 16) (s : State),
    let a := dataAddr s rs imm
    Executes (iWord 0x30#6 rs rt imm) (.ll rt imm rs) s (fun t => Accesses 4#5 4 a s t
      (KeepsAllBut [.gpr, .link] s t ∧
        GprWrite rt (s.readByte a ++ s.readByte (a + 1#32) ++ s.readByte (a + 2#32) ++ s.readByte (a + 3#32)) s t ∧
        t.llBit = true ∧ t.llAddr = a ∧ GoesOn s t))

/-- R229, R225: misaligned or barred, Address Error (code 5); not linked to this address, `sc` fails; linked, it succeeds, or,
only with `SC_MAY_FAIL`, may fail all the same. The model's own: that under `SC_MAY_FAIL` one free value is drawn and counted in
each of these cases but the first, a Bus Error included (log entries 8, 15); that one unbacked byte of the four is enough for the
Bus Error (log entry 23). -/
def Obligations.StoreConditional : Prop :=
  ∀ (rt rs : Reg) (imm : BitVec 16) (s : State),
    let a := dataAddr s rs imm
    let u := if s.params.scMayFail then { s with draws := s.draws + 1 } else s
    Executes (iWord 0x38#6 rs rt imm) (.sc rt imm rs) s (fun t =>
      if a.toNat % 4 ≠ 0 then Entered 5#5 (some a) s t
      else if Barred s a then Entered 5#5 (some a) s t
      else if s.llBit = false ∨ a ≠ s.llAddr then ScFails rt u t
      else if s.params.scMayFail then ScFails rt u t ∨ ScSucceeds rt a u t
      else ScSucceeds rt a u t)

/-- R52, R53, R54: what a word store leaves at each of its four byte addresses, the two halfwords and the word read back, and
every other byte unchanged. -/
def Obligations.StoredWordReadsBack : Prop :=
  ∀ (a v : Word) (s : State),
    let t := s.writeWord a v
    t.readByte a = v.extractLsb' 24 8 ∧ t.readByte (a + 1#32) = v.extractLsb' 16 8 ∧
    t.readByte (a + 2#32) = v.extractLsb' 8 8 ∧ t.readByte (a + 3#32) = v.extractLsb' 0 8 ∧
    t.readHalf a = v.extractLsb' 16 16 ∧ t.readHalf (a + 2#32) = v.extractLsb' 0 16 ∧ t.readWord a = v ∧
    ∀ q, q ≠ a → q ≠ a + 1#32 → q ≠ a + 2#32 → q ≠ a + 3#32 → t.readByte q = s.readByte q

/-! ### Multiply and divide -/

/-- R241, R242: `{HI, LO}` is the exact product; R245, R246, R247, R248: the moves from and to `HI` and `LO`. -/
def Obligations.MultipliesAndHiLoMoves : Prop :=
  ∀ (rd rs rt : Reg) (s : State),
    Executes (rWord rs rt 0#5 0#5 0x18#6) (.mult rs rt) s (fun t => ∃ h l, WritesHiLo h l s t ∧
      (h ++ l : DWord).toInt = (s.readX rs).toInt * (s.readX rt).toInt) ∧
    Executes (rWord rs rt 0#5 0#5 0x19#6) (.multu rs rt) s (fun t => ∃ h l, WritesHiLo h l s t ∧
      (h ++ l : DWord).toNat = (s.readX rs).toNat * (s.readX rt).toNat) ∧
    Executes (rWord 0#5 0#5 rd 0#5 0x10#6) (.mfhi rd) s (WritesX rd s.hi s) ∧
    Executes (rWord 0#5 0#5 rd 0#5 0x12#6) (.mflo rd) s (WritesX rd s.lo s) ∧
    Executes (rWord rs 0#5 0#5 0#5 0x11#6) (.mthi rs) s (WritesHiLo (s.readX rs) s.lo s) ∧
    Executes (rWord rs 0#5 0#5 0#5 0x13#6) (.mtlo rs) s (WritesHiLo s.hi (s.readX rs) s)

/-- R243, R244: the quotient toward zero with its remainder; the overflow pair; by zero, `HI` and `LO` receive some values (draws), of
which nothing is claimed, and no exception is taken. -/
def Obligations.Divides : Prop :=
  ∀ (rs rt : Reg) (s : State),
    Executes (rWord rs rt 0#5 0#5 0x1a#6) (.div rs rt) s (fun t =>
      if s.readX rt = 0#32 then KeepsAllBut [.hiLo, .draws] s t ∧ GoesOn s t
      else if s.readX rs = 0x80000000#32 ∧ s.readX rt = 0xffffffff#32 then WritesHiLo 0#32 0x80000000#32 s t
      else ∃ h l, WritesHiLo h l s t ∧
        (s.readX rs).toInt = l.toInt * (s.readX rt).toInt + h.toInt ∧ |h.toInt| < |(s.readX rt).toInt| ∧
        (h.toInt = 0 ∨ h.toInt.sign = (s.readX rs).toInt.sign)) ∧
    Executes (rWord rs rt 0#5 0#5 0x1b#6) (.divu rs rt) s (fun t =>
      if s.readX rt = 0#32 then KeepsAllBut [.hiLo, .draws] s t ∧ GoesOn s t
      else ∃ h l, WritesHiLo h l s t ∧
        (s.readX rs).toNat = l.toNat * (s.readX rt).toNat + h.toNat ∧ h.toNat < (s.readX rt).toNat)

/-! ### Floating point -/

/-- R259, R261, R263, R265 with law 1 of R258: each operation has ONE function of the two patterns, exact where law 1 says so,
whose result is written or whose `FPE` is raised. -/
def Obligations.SingleArithmetic : Prop :=
  ∃ fadd fsub fmul fdiv : Word → Word → FpResult Word,
    Law1S (· + ·) fadd ∧ Law1S (· - ·) fsub ∧ Law1S (· * ·) fmul ∧ Law1S (· / ·) fdiv ∧
    ∀ (fd fs ft : FReg) (s : State), s.params.hasFpu = true →
      Executes (frWord 0x10#5 ft fs fd 0x00#6) (.addS fd fs ft) s (DeliversF fd (fadd (s.readF fs) (s.readF ft)) s) ∧
      Executes (frWord 0x10#5 ft fs fd 0x01#6) (.subS fd fs ft) s (DeliversF fd (fsub (s.readF fs) (s.readF ft)) s) ∧
      Executes (frWord 0x10#5 ft fs fd 0x02#6) (.mulS fd fs ft) s (DeliversF fd (fmul (s.readF fs) (s.readF ft)) s) ∧
      Executes (frWord 0x10#5 ft fs fd 0x03#6) (.divS fd fs ft) s (DeliversF fd (fdiv (s.readF fs) (s.readF ft)) s)

/-- R260, R262, R264, R266 with law 1 of R258, on pairs of even registers (R257). -/
def Obligations.DoubleArithmetic : Prop :=
  ∃ fadd fsub fmul fdiv : DWord → DWord → FpResult DWord,
    Law1D (· + ·) fadd ∧ Law1D (· - ·) fsub ∧ Law1D (· * ·) fmul ∧ Law1D (· / ·) fdiv ∧
    ∀ (fd fs ft : FReg) (s : State), s.params.hasFpu = true → IsEven fd → IsEven fs → IsEven ft →
      Executes (frWord 0x11#5 ft fs fd 0x00#6) (.addD fd fs ft) s (DeliversD fd (fadd (pairValue s fs) (pairValue s ft)) s) ∧
      Executes (frWord 0x11#5 ft fs fd 0x01#6) (.subD fd fs ft) s (DeliversD fd (fsub (pairValue s fs) (pairValue s ft)) s) ∧
      Executes (frWord 0x11#5 ft fs fd 0x02#6) (.mulD fd fs ft) s (DeliversD fd (fmul (pairValue s fs) (pairValue s ft)) s) ∧
      Executes (frWord 0x11#5 ft fs fd 0x03#6) (.divD fd fs ft) s (DeliversD fd (fdiv (pairValue s fs) (pairValue s ft)) s)

/-- R275 with law 1 of R258: the square root of a value whose exact positive root is a normalised number. -/
def Obligations.SquareRoots : Prop :=
  (∃ f : Word → FpResult Word,
    (∀ a r, normalS a → normalS r → 0 < valueS r → valueS r * valueS r = valueS a → f a = .value r) ∧
    ∀ (fd fs : FReg) (s : State), s.params.hasFpu = true →
      Executes (frWord 0x10#5 0#5 fs fd 0x04#6) (.sqrtS fd fs) s (DeliversF fd (f (s.readF fs)) s)) ∧
  ∃ f : DWord → FpResult DWord,
    (∀ a r, normalD a → normalD r → 0 < valueD r → valueD r * valueD r = valueD a → f a = .value r) ∧
    ∀ (fd fs : FReg) (s : State), s.params.hasFpu = true → IsEven fd → IsEven fs →
      Executes (frWord 0x11#5 0#5 fs fd 0x04#6) (.sqrtD fd fs) s (DeliversD fd (f (pairValue s fs)) s)

/-- R276, R278: the sign bit cleared or inverted, for every pattern that is not a NaN. -/
def Obligations.AbsoluteValueAndNegation : Prop :=
  ∃ (fabs fneg : Word → FpResult Word) (dabs dneg : DWord → FpResult DWord),
    (∀ a, ¬NanS a → fabs a = .value (0#1 ++ a.extractLsb' 0 31)) ∧
    (∀ a, ¬NanS a → fneg a = .value (~~~(a.extractLsb' 31 1) ++ a.extractLsb' 0 31)) ∧
    (∀ a, ¬NanD a → dabs a = .value (0#1 ++ a.extractLsb' 0 63)) ∧
    (∀ a, ¬NanD a → dneg a = .value (~~~(a.extractLsb' 63 1) ++ a.extractLsb' 0 63)) ∧
    ∀ (fd fs : FReg) (s : State), s.params.hasFpu = true →
      Executes (frWord 0x10#5 0#5 fs fd 0x05#6) (.absS fd fs) s (DeliversF fd (fabs (s.readF fs)) s) ∧
      Executes (frWord 0x10#5 0#5 fs fd 0x07#6) (.negS fd fs) s (DeliversF fd (fneg (s.readF fs)) s) ∧
      (IsEven fd → IsEven fs →
        Executes (frWord 0x11#5 0#5 fs fd 0x05#6) (.absD fd fs) s (DeliversD fd (dabs (pairValue s fs)) s) ∧
        Executes (frWord 0x11#5 0#5 fs fd 0x07#6) (.negD fd fs) s (DeliversD fd (dneg (pairValue s fs)) s))

/-- R277, R281: bit-for-bit copies, unconditional or on a general register. -/
def Obligations.FloatingPointMoves : Prop :=
  ∀ (fd fs : FReg) (rt : Reg) (s : State), s.params.hasFpu = true →
    Executes (frWord 0x10#5 0#5 fs fd 0x06#6) (.movS fd fs) s (WritesF fd (s.readF fs) s) ∧
    Executes (frWord 0x10#5 rt fs fd 0x12#6) (.movzS fd fs rt) s
      (fun t => if s.readX rt = 0#32 then WritesF fd (s.readF fs) s t else WritesNothing s t) ∧
    Executes (frWord 0x10#5 rt fs fd 0x13#6) (.movnS fd fs rt) s
      (fun t => if s.readX rt = 0#32 then WritesNothing s t else WritesF fd (s.readF fs) s t) ∧
    (IsEven fd → IsEven fs →
      Executes (frWord 0x11#5 0#5 fs fd 0x06#6) (.movD fd fs) s (WritesD fd (pairValue s fs) s) ∧
      Executes (frWord 0x11#5 rt fs fd 0x12#6) (.movzD fd fs rt) s
        (fun t => if s.readX rt = 0#32 then WritesD fd (pairValue s fs) s t else WritesNothing s t) ∧
      Executes (frWord 0x11#5 rt fs fd 0x13#6) (.movnD fd fs rt) s
        (fun t => if s.readX rt = 0#32 then WritesNothing s t else WritesD fd (pairValue s fs) s t))

/-- R279 with law 3 of R258: a single source, or a double one in an even register; the destination is one register of any
number. -/
def Obligations.Roundings : Prop :=
  (∃ fr ft fc ff : Word → FpResult Word,
    Law3S NearestEven fr ∧ Law3S (fun v n => n = towardZero v) ft ∧ Law3S (fun v n => n = ⌈v⌉) fc ∧
    Law3S (fun v n => n = ⌊v⌋) ff ∧
    ∀ (fd fs : FReg) (s : State), s.params.hasFpu = true →
      Executes (frWord 0x10#5 0#5 fs fd 0x0c#6) (.roundWS fd fs) s (DeliversF fd (fr (s.readF fs)) s) ∧
      Executes (frWord 0x10#5 0#5 fs fd 0x0d#6) (.truncWS fd fs) s (DeliversF fd (ft (s.readF fs)) s) ∧
      Executes (frWord 0x10#5 0#5 fs fd 0x0e#6) (.ceilWS fd fs) s (DeliversF fd (fc (s.readF fs)) s) ∧
      Executes (frWord 0x10#5 0#5 fs fd 0x0f#6) (.floorWS fd fs) s (DeliversF fd (ff (s.readF fs)) s)) ∧
  ∃ fr ft fc ff : DWord → FpResult Word,
    Law3D NearestEven fr ∧ Law3D (fun v n => n = towardZero v) ft ∧ Law3D (fun v n => n = ⌈v⌉) fc ∧
    Law3D (fun v n => n = ⌊v⌋) ff ∧
    ∀ (fd fs : FReg) (s : State), s.params.hasFpu = true → IsEven fs →
      Executes (frWord 0x11#5 0#5 fs fd 0x0c#6) (.roundWD fd fs) s (DeliversF fd (fr (pairValue s fs)) s) ∧
      Executes (frWord 0x11#5 0#5 fs fd 0x0d#6) (.truncWD fd fs) s (DeliversF fd (ft (pairValue s fs)) s) ∧
      Executes (frWord 0x11#5 0#5 fs fd 0x0e#6) (.ceilWD fd fs) s (DeliversF fd (fc (pairValue s fs)) s) ∧
      Executes (frWord 0x11#5 0#5 fs fd 0x0f#6) (.floorWD fd fs) s (DeliversF fd (ff (pairValue s fs)) s)

/-- R280: `cvt.d.s` of a normalised single by its bits; `cvt.s.d` exact by law 1; `cvt.w` of an integer-valued normalised operand
in range. -/
def Obligations.Conversions : Prop :=
  ∃ (fds : Word → FpResult DWord) (fsd : DWord → FpResult Word) (fws : Word → FpResult Word) (fwd : DWord → FpResult Word),
    (∀ a, normalS a → fds a = .value
      (a.extractLsb' 31 1 ++ (BitVec.ofNat 11 ((a.extractLsb' 23 8).toNat + 896)) ++ a.extractLsb' 0 23 ++ 0#29)) ∧
    (∀ a r, normalD a → normalS r → valueD a = valueS r → fsd a = .value r) ∧
    (∀ a n, normalS a → valueS a = (n : ℤ) → -2 ^ 31 ≤ n → n ≤ 2 ^ 31 - 1 → fws a = .value (BitVec.ofInt 32 n)) ∧
    (∀ a n, normalD a → valueD a = (n : ℤ) → -2 ^ 31 ≤ n → n ≤ 2 ^ 31 - 1 → fwd a = .value (BitVec.ofInt 32 n)) ∧
    ∀ (fd fs : FReg) (s : State), s.params.hasFpu = true →
      (IsEven fd → Executes (frWord 0x10#5 0#5 fs fd 0x21#6) (.cvtDS fd fs) s (DeliversD fd (fds (s.readF fs)) s)) ∧
      (IsEven fs → Executes (frWord 0x11#5 0#5 fs fd 0x20#6) (.cvtSD fd fs) s (DeliversF fd (fsd (pairValue s fs)) s)) ∧
      Executes (frWord 0x10#5 0#5 fs fd 0x24#6) (.cvtWS fd fs) s (DeliversF fd (fws (s.readF fs)) s) ∧
      (IsEven fs → Executes (frWord 0x11#5 0#5 fs fd 0x24#6) (.cvtWD fd fs) s (DeliversF fd (fwd (pairValue s fs)) s))

/-- R267 to R270 with law 2 of R258: the sixteen conditions by `cond` = `funct` - 0x30, each writing `cc[cc]`, on singles and on
doubles in even registers. -/
def Obligations.Compares : Prop :=
  (∃ f : BitVec 4 → Word → Word → FpResult Bool,
    (∀ cond a b, normalS a → normalS b → f cond a b = .value (decide (CondTrue cond (valueS a) (valueS b)))) ∧
    ∀ (cc : CcNum) (fs ft : FReg) (s : State), s.params.hasFpu = true →
      ∀ c ∈ ([(0x0#4, .cFS), (0x1#4, .cUnS), (0x2#4, .cEqS), (0x3#4, .cUeqS), (0x4#4, .cOltS), (0x5#4, .cUltS),
          (0x6#4, .cOleS), (0x7#4, .cUleS), (0x8#4, .cSfS), (0x9#4, .cNgleS), (0xa#4, .cSeqS), (0xb#4, .cNglS),
          (0xc#4, .cLtS), (0xd#4, .cNgeS), (0xe#4, .cLeS), (0xf#4, .cNgtS)] :
          List (BitVec 4 × (CcNum → FReg → FReg → Instr))),
        Executes (compareWord 0x10#5 ft fs cc (0b11#2 ++ c.1)) (c.2 cc fs ft) s
          (DeliversCc cc (f c.1 (s.readF fs) (s.readF ft)) s)) ∧
  ∃ f : BitVec 4 → DWord → DWord → FpResult Bool,
    (∀ cond a b, normalD a → normalD b → f cond a b = .value (decide (CondTrue cond (valueD a) (valueD b)))) ∧
    ∀ (cc : CcNum) (fs ft : FReg) (s : State), s.params.hasFpu = true → IsEven fs → IsEven ft →
      ∀ c ∈ ([(0x0#4, .cFD), (0x1#4, .cUnD), (0x2#4, .cEqD), (0x3#4, .cUeqD), (0x4#4, .cOltD), (0x5#4, .cUltD),
          (0x6#4, .cOleD), (0x7#4, .cUleD), (0x8#4, .cSfD), (0x9#4, .cNgleD), (0xa#4, .cSeqD), (0xb#4, .cNglD),
          (0xc#4, .cLtD), (0xd#4, .cNgeD), (0xe#4, .cLeD), (0xf#4, .cNgtD)] :
          List (BitVec 4 × (CcNum → FReg → FReg → Instr))),
        Executes (compareWord 0x11#5 ft fs cc (0b11#2 ++ c.1)) (c.2 cc fs ft) s
          (DeliversCc cc (f c.1 (pairValue s fs) (pairValue s ft)) s)

/-- R271, R272, R273, R274, with the order of events of R225 and the 8-byte alignment of R56; under `FPR_PAIR_ORDER` = `even_low`
the two registers of a pair are exchanged (C9, log entry 17). The model's deductions: that one unbacked byte of the access is enough
for code 7, where R225 says only `addr` (log entry 23); that `ldc1` checks all eight bytes before its first access (log entry 18). -/
def Obligations.FloatingPointLoadsAndStores : Prop :=
  ∀ (ft : FReg) (rs : Reg) (imm : BitVec 16) (s : State), s.params.hasFpu = true →
    let a := dataAddr s rs imm
    Executes (iWord 0x31#6 rs ft imm) (.lwc1 ft imm rs) s (fun t => Accesses 4#5 4 a s t
      (WritesF ft (s.readByte a ++ s.readByte (a + 1#32) ++ s.readByte (a + 2#32) ++ s.readByte (a + 3#32)) s t)) ∧
    (IsEven ft → Executes (iWord 0x35#6 rs ft imm) (.ldc1 ft imm rs) s (fun t => Accesses 4#5 8 a s t
      (WritesD ft (s.readByte a ++ s.readByte (a + 1#32) ++ s.readByte (a + 2#32) ++ s.readByte (a + 3#32) ++
        s.readByte (a + 4#32) ++ s.readByte (a + 5#32) ++ s.readByte (a + 6#32) ++ s.readByte (a + 7#32)) s t))) ∧
    Executes (iWord 0x39#6 rs ft imm) (.swc1 ft imm rs) s (fun t => Accesses 5#5 4 a s t
      (Stores a (bytesOfWord (s.readF ft)) s t)) ∧
    (IsEven ft → Executes (iWord 0x3d#6 rs ft imm) (.sdc1 ft imm rs) s (fun t => Accesses 5#5 8 a s t
      (Stores a (bytesOfWord ((pairValue s ft).extractLsb' 32 32) ++ bytesOfWord ((pairValue s ft).extractLsb' 0 32)) s t)))

/-- R257: an odd register named as a double is refused, whatever the state holds. -/
def Obligations.OddDoublesRefused : Prop :=
  ∀ (i : Instr) (s : State), s.params.hasFpu = true → (∃ n ∈ i.doubleRegs, ¬IsEven n) → exec i s = .refused .oddDouble

/-- R256: without a floating-point unit every word of the family, listed or not, raises Coprocessor Unimplemented before any
other check. -/
def Obligations.AbsentUnitRaises : Prop :=
  ∀ (w : Word) (s : State), coprocessor1Word w = true → s.params.hasFpu = false →
    ∃ t, runWord w s = .next t ∧ Entered 11#5 none s t

/-! ### Named only, unlisted, and the map of the encodings -/

/-- R300, R304, R305, R306, R307, R308, R310: refused whatever the state holds. -/
def Obligations.NamedOnlyRefused : Prop :=
  ∀ (rt rs : BitVec 5) (imm : BitVec 16) (s : State),
    Refuses (iWord 0x22#6 rs rt imm) (.lwl rt imm rs) s .unalignedPieceUndefined ∧
    Refuses (iWord 0x26#6 rs rt imm) (.lwr rt imm rs) s .unalignedPieceUndefined ∧
    Refuses (iWord 0x2a#6 rs rt imm) (.swl rt imm rs) s .unalignedPieceUndefined ∧
    Refuses (iWord 0x2e#6 rs rt imm) (.swr rt imm rs) s .unalignedPieceUndefined ∧
    Refuses (iWord 0x2f#6 rs rt imm) (.cache rt imm rs) s .cacheUndefined ∧
    Refuses (iWord 0x32#6 rs rt imm) (.lwc2 rt imm rs) s .coprocessor2Undefined ∧
    Refuses (iWord 0x36#6 rs rt imm) (.ldc2 rt imm rs) s .coprocessor2Undefined ∧
    Refuses (iWord 0x3a#6 rs rt imm) (.swc2 rt imm rs) s .coprocessor2Undefined ∧
    Refuses (iWord 0x3e#6 rs rt imm) (.sdc2 rt imm rs) s .coprocessor2Undefined

/-- R303 and R311: `sync` is a no-operation; `pref` is refused, unless the run takes R311's option (the model's own parameter
`prefIsNoOp`, log entry 21), when it is a no-operation. -/
def Obligations.SyncAndPrefetch : Prop :=
  ∀ (rt rs : BitVec 5) (imm : BitVec 16) (s : State),
    Executes 0x0000000f#32 .sync s (WritesNothing s) ∧
    (s.params.prefIsNoOp = false → Refuses (iWord 0x33#6 rs rt imm) (.pref rt imm rs) s .prefetchUndefined) ∧
    (s.params.prefIsNoOp = true → Executes (iWord 0x33#6 rs rt imm) (.pref rt imm rs) s (WritesNothing s))

/-- R98: a word that matches no row raises Reserved Instruction, or is refused under the strict `UNLISTED_ENCODING`. (Without a
floating-point unit the words of that family raise code 11 first, R256.) -/
def Obligations.UnlistedWords : Prop :=
  ∀ (w : Word) (s : State), (∀ row ∈ opcodeTable, w &&& row.mask ≠ row.pattern) →
    (coprocessor1Word w = true → s.params.hasFpu = true) →
    (s.params.unlisted = .ri → ∃ t, runWord w s = .next t ∧ Entered 10#5 none s t) ∧
    (s.params.unlisted = .refuse → runWord w s = .refused (.unlistedEncoding w))

/-- R89 to R95, R98, R105: a word decodes to an instruction of a row's mnemonic exactly when it matches that row. -/
def Obligations.DecodingFollowsTheTable : Prop :=
  (∀ row ∈ opcodeTable, ∀ w : Word, w &&& row.mask = row.pattern → ∃ i, decode w = .ok i ∧ i.mnemonic = row.mnemonic) ∧
  ∀ (w : Word) (i : Instr), decode w = .ok i →
    ∃ row ∈ opcodeTable, w &&& row.mask = row.pattern ∧ row.mnemonic = i.mnemonic

/-- The words the spec writes out for one instruction of each family decode to it. -/
def Obligations.WrittenOutWordsDecode : Prop :=
  decode 0x01095020#32 = .ok (.add 10#5 8#5 9#5) ∧ decode 0x3c081234#32 = .ok (.lui 8#5 0x1234#16) ∧
  decode 0x0109502b#32 = .ok (.sltu 10#5 8#5 9#5) ∧ decode 0x05110003#32 = .ok (.bgezal 8#5 3#16) ∧
  decode 0x0c100008#32 = .ok (.jal 0x0100008#26) ∧ decode 0x40086800#32 = .ok (.mfc0 8#5 13#5) ∧
  decode 0xad090004#32 = .ok (.sw 9#5 4#16 8#5) ∧ decode 0x0109001a#32 = .ok (.div 8#5 9#5) ∧
  decode 0x46241000#32 = .ok (.addD 0#5 2#5 4#5) ∧ decode 0x46041132#32 = .ok (.cEqS 1#3 2#5 4#5) ∧
  decode 0x0000000f#32 = .ok .sync

/-- Decode and encode agree, one direction: every instruction of every family, every operand at every value. -/
def Obligations.DecodeOfEncode : Prop := ∀ i : Instr, decode (encode i) = .ok i

/-- Decode and encode agree, the other direction: no bit of a decoded word is dropped. -/
def Obligations.EncodeOfDecode : Prop := ∀ (w : Word) (i : Instr), decode w = .ok i → encode i = w

/-! ### Exceptions, interrupts, modes -/

/-- R330, R337, with the codes of R321. -/
def Obligations.ExceptionEntry : Prop :=
  ∀ (s : State) (a : Word),
    Entered 0#5 none s (s.raise .interrupt) ∧ Entered 4#5 (some a) s (s.raise (.addressErrorLoad a)) ∧
    Entered 5#5 (some a) s (s.raise (.addressErrorStore a)) ∧ Entered 6#5 none s (s.raise .busErrorFetch) ∧
    Entered 7#5 none s (s.raise .busErrorData) ∧ Entered 8#5 none s (s.raise .syscall) ∧
    Entered 9#5 none s (s.raise .breakpoint) ∧ Entered 10#5 none s (s.raise .reservedInstruction) ∧
    Entered 11#5 none s (s.raise .coprocessorUnimplemented) ∧ Entered 12#5 none s (s.raise .overflow) ∧
    Entered 13#5 none s (s.raise .trap) ∧ Entered 15#5 none s (s.raise .floatingPointException)

/-- R331: an instruction changes `Cause` or `BadVAddr` only by an exception entry, and then it changes nothing else (the model's
own count of draws apart). -/
def Obligations.ExceptionsArePrecise : Prop :=
  ∀ (i : Instr) (s t : State), exec i s = .next t → (t.cause ≠ s.cause ∨ t.badVAddr ≠ s.badVAddr) →
    ∃ (code : BitVec 5) (bad : Option Word) (n : Nat), Entered code bad { s with draws := n } t

/-- R334, R335: an exception raised by a delay-slot instruction saves the address of its branch or jump. -/
def Obligations.DelaySlotExceptionNamesTheBranch : Prop :=
  ∀ (i : Instr) (s t : State) (e : Exception), s.bd = false → s.npc = s.pc + 4#32 → exec i s = .next t → t.bd = true →
    t.status.el = false → (t.raise e).epc = s.pc ∧ (t.raise e).cause.bd = true

/-- R340, R341: a step takes an interrupt in place of the instruction exactly when one is takeable. If none is, the step is the
entry of the fetch's exception, or the word at `pc` run; and no instruction and no fetch writes code 0. The lines as a list that
moves on are the model's form of the input `IRQ` (log entry 5). -/
def Obligations.InterruptsAreTaken : Prop :=
  ∀ s : State,
    (Takeable s → ∃ t, step s = .next { t with irq := t.irq.tail } ∧ Entered 0#5 none s t) ∧
    (¬Takeable s →
      ((∃ code bad t, (code = 4#5 ∨ code = 6#5) ∧ step s = .next { t with irq := t.irq.tail } ∧ Entered code bad s t) ∨
        step s = linesMoveOn (runWord (wordAtPc s) s)) ∧
      ∀ t, step s = .next t → t.cause = s.cause ∨ t.cause.excCode ≠ 0#5)

/-- R57, R58, R63, R338: with no interrupt taken, what a fetch raises. That one unbacked byte of the four is enough for code 6 is the
model's deduction: R58 says only an address (log entry 23). -/
def Obligations.FetchExceptions : Prop :=
  ∀ s : State, ¬Takeable s →
    (s.pc.toNat % 4 ≠ 0 → ∃ t, step s = .next { t with irq := t.irq.tail } ∧ Entered 4#5 (some s.pc) s t) ∧
    (s.pc.toNat % 4 = 0 → Barred s s.pc →
      ∃ t, step s = .next { t with irq := t.irq.tail } ∧ Entered 4#5 (some s.pc) s t) ∧
    (s.pc.toNat % 4 = 0 → ¬Barred s s.pc → ¬Backed s s.pc 4 →
      ∃ t, step s = .next { t with irq := t.irq.tail } ∧ Entered 6#5 none s t)

/-- With no interrupt taken and the fetch allowed, a step runs the word of the four bytes at `pc`, the first the most significant,
whether or not it decodes (what an unlisted word does is said by UnlistedWords and AbsentUnitRaises); where the bytes decode, it runs
the decoded instruction. Then the next levels of the interrupt lines stand. -/
def Obligations.StepRunsTheDecodedInstruction : Prop :=
  ∀ s : State, ¬Takeable s → s.pc.toNat % 4 = 0 → ¬Barred s s.pc → Backed s s.pc 4 →
    step s = linesMoveOn (runWord (wordAtPc s) s) ∧
    ∀ i : Instr,
      decodeBytes [s.readByte s.pc, s.readByte (s.pc + 1#32), s.readByte (s.pc + 2#32), s.readByte (s.pc + 3#32)] = .ok i →
      step s = linesMoveOn (exec i s)

/-- R350, R351: but for `mfc0`, `mtc0` and `eret`, and with the segment check off, an instruction does the same whatever the
`UM` bit is: the outcome from the state with the other `UM` is the outcome, with that `UM`. -/
def Obligations.ModesBehaveAlike : Prop :=
  ∀ (i : Instr) (s : State) (b : Bool), i.privileged = false → s.params.userSegmentCheck = false →
    exec i { s with status := { s.status with um := b } } =
      match exec i s with
      | .next t => .next { t with status := { t.status with um := b } }
      | .fault r => .fault r
      | .refused r => .refused r

/-- R351, R352: a user-mode instruction changes `Status`, `EPC` or `Cause` only by an exception entry; and only `eret`, or an
`mtc0` to `Status`, leads from kernel mode to user mode. -/
def Obligations.ModeChanges : Prop :=
  ∀ (i : Instr) (s t : State), exec i s = .next t →
    (InUserMode s →
      (t.status = s.status ∧ t.epc = s.epc ∧ t.cause = s.cause) ∨
      ∃ (code : BitVec 5) (bad : Option Word) (n : Nat), Entered code bad { s with draws := n } t) ∧
    (¬InUserMode s → InUserMode t → i = .eret ∨ ∃ rt, i = .mtc0 rt 12#5)

/-! ### Whole-machine frames -/

/-- R31, R249: `HI` and `LO` keep their values across every other instruction, exception entries and `eret` included. R34: only a
floating-point compare writes a condition flag. -/
def Obligations.HiLoAndFlagsKept : Prop :=
  ∀ (i : Instr) (s t : State), exec i s = .next t →
    (i.writesHiLo = false → t.hi = s.hi ∧ t.lo = s.lo) ∧ (i.compares = false → t.cc = s.cc)

/-- R33: an instruction outside the floating-point family leaves every `f` register and flag; one inside it leaves every general
register, `HI` and `LO`. -/
def Obligations.RegisterFilesApart : Prop :=
  ∀ (i : Instr) (s t : State), exec i s = .next t →
    (coprocessor1Word (encode i) = false → t.fpr = s.fpr ∧ t.cc = s.cc) ∧
    (coprocessor1Word (encode i) = true → t.gpr = s.gpr ∧ t.hi = s.hi ∧ t.lo = s.lo)

/-- R47, R59: only the six stores write memory. -/
def Obligations.OnlyStoresWriteMemory : Prop :=
  ∀ (i : Instr) (s t : State), i.stores = false → exec i s = .next t → t.mem = s.mem

/-- R45, R227: but for `ll`, nothing sets the link; but for `sc`, `eret` and exception entries, nothing clears it. -/
def Obligations.LinkState : Prop :=
  ∀ (i : Instr) (s t : State), exec i s = .next t → (∀ rt imm rs, i ≠ .ll rt imm rs) →
    t.llAddr = s.llAddr ∧ (t.llBit = true → s.llBit = true) ∧
    (s.llBit = true → t.llBit = false →
      i = .eret ∨ (∃ rt imm rs, i = .sc rt imm rs) ∨ ∃ code bad, Entered code bad s t)

/-- R21: `x[0]` reads 0 in every state, and a write to it changes nothing. -/
def Obligations.RegisterZero : Prop :=
  ∀ (s : State) (v : Word), s.readX 0#5 = 0#32 ∧ s.writeX 0#5 v = s

/-- R383: an instruction whose operands are legal, that is not one of the named-only ones, that is no branch, jump or `eret` in a
delay slot, and that is not `syscall` as a host call, completes. -/
def Obligations.WellFormedInstructionsComplete : Prop :=
  ∀ (i : Instr) (s : State), i.wellFormed = true → i.namedOnly = false → (s.bd = true → i.transfersControl = false) →
    (s.params.syscallIsHostCall = true → ∀ code, i ≠ .syscall code) → ∃ t, exec i s = .next t

/-- A step never faults (spec/93_implementation_defined.md section 1), and never changes the parameters; the interrupt lines of the
next step stand after it (R341, R384). -/
def Obligations.StepKeepsTheParameters : Prop :=
  ∀ s : State, (∀ f, step s ≠ .fault f) ∧ ∀ t, step s = .next t → t.params = s.params ∧ t.irq = s.irq.tail

/-- The invariant of Safety.lean (memory canonical; `ExcCode` a listed code; `npc` after `pc` outside a delay slot) is kept by
every step. -/
def Obligations.StepKeepsTheInvariant : Prop := ∀ s t : State, MachineInv s → step s = .next t → MachineInv t

/-- The invariant holds after reset. That `ExcCode` is a listed code there rests on the model's choice (log entry 1). -/
def Obligations.InvariantAtReset : Prop := MachineInv State.reset

/-- What R49 and R370 give of the reset state: `x[0]`, `npc`, `bd`, the mode, interrupts off, no link. The value of `pc` is the
model's choice of the OPEN parameter RESET_PC (log entry 2), of which only the alignment is stated. -/
def Obligations.ResetState : Prop :=
  State.reset.readX 0#5 = 0#32 ∧ State.reset.pc.toNat % 4 = 0 ∧ State.reset.npc = State.reset.pc + 4#32 ∧
  State.reset.bd = false ∧ State.reset.status.el = false ∧ State.reset.status.um = false ∧
  State.reset.status.ie = false ∧ State.reset.llBit = false ∧ ¬InUserMode State.reset ∧
  (∀ i : Fin 8, (State.reset.pending.getLsbD i) = (State.reset.irq.headD 0#8).getLsbD i)

end
end

