-- ==== Sys2Proof/Laws/Decode.lean ====
section
/-! SUPPORT. Splitting a word into its fields and joining fields into a word are inverse; decoding a joined word; the words of
the formats as joined fields. -/

namespace Sys2Proof

/-- The fields of a joined word are the fields it was joined from (R81). -/
@[simp] theorem Fields.ofWord_toWord (f : Fields) : Fields.ofWord f.toWord = f := by
  obtain ⟨op, rs, rt, rd, shamt, funct⟩ := f
  simp only [Fields.ofWord, Fields.toWord, Fields.mk.injEq]
  refine ⟨?_, ?_, ?_, ?_, ?_, ?_⟩ <;> ext i hi <;> simp only [BitVec.getElem_extractLsb', BitVec.getLsbD_append] <;> grind

/-- A word is the join of its fields (R81). -/
@[simp] theorem Fields.toWord_ofWord (w : Word) : (Fields.ofWord w).toWord = w := by
  simp only [Fields.ofWord, Fields.toWord]
  ext i hi; simp; grind

/-- A joined word decodes as its fields select (R89). -/
theorem decode_toWord {f : Fields} {i : Instr} (h : decodeFields f = some i) : decode f.toWord = .ok i := by
  simp [decode, h]

theorem decode_ok_iff {w : Word} {i : Instr} : decode w = .ok i ↔ decodeFields (Fields.ofWord w) = some i := by
  unfold decode; cases decodeFields (Fields.ofWord w) <;> simp

theorem decode_ne_ok_iff {w : Word} : (∀ i, decode w ≠ .ok i) ↔ decodeFields (Fields.ofWord w) = none := by
  unfold decode; cases decodeFields (Fields.ofWord w) <;> simp

/-- The mask of a row applied field by field (R105). -/
theorem Fields.toWord_and (f g : Fields) :
    f.toWord &&& g.toWord =
      Fields.toWord ⟨f.op &&& g.op, f.rs &&& g.rs, f.rt &&& g.rt, f.rd &&& g.rd, f.shamt &&& g.shamt, f.funct &&& g.funct⟩ := by
  simp only [Fields.toWord]
  ext i hi
  simp only [BitVec.getElem_and, BitVec.getElem_append]
  grind

/-- An instruction fits a row when its fields do. -/
theorem encode_fits {i : Instr} {m p : Word}
    (h : let f := encodeFields i; let g := Fields.ofWord m
      (⟨f.op &&& g.op, f.rs &&& g.rs, f.rt &&& g.rt, f.rd &&& g.rd, f.shamt &&& g.shamt, f.funct &&& g.funct⟩ : Fields) =
        Fields.ofWord p) : encode i &&& m = p := by
  conv_lhs => rw [← Fields.toWord_ofWord m]
  rw [encode, Fields.toWord_and, h, Fields.toWord_ofWord]

/-! ### The joins of the formats -/

/-- `imm` from its three pieces (R82). -/
@[simp] theorem Fields.imm_iType (op : BitVec 6) (rs rt : BitVec 5) (imm : BitVec 16) :
    (Fields.iType op rs rt imm).imm = imm := by
  simp only [Fields.imm, Fields.iType]; ext i hi; simp; grind

@[simp] theorem Fields.iType_op (op : BitVec 6) (rs rt : BitVec 5) (imm : BitVec 16) : (Fields.iType op rs rt imm).op = op := rfl

@[simp] theorem Fields.iType_rs (op : BitVec 6) (rs rt : BitVec 5) (imm : BitVec 16) : (Fields.iType op rs rt imm).rs = rs := rfl

@[simp] theorem Fields.iType_rt (op : BitVec 6) (rs rt : BitVec 5) (imm : BitVec 16) : (Fields.iType op rs rt imm).rt = rt := rfl

@[simp] theorem Fields.trapType_rs (rs rt : BitVec 5) (code : BitVec 10) (funct : BitVec 6) :
    (Fields.trapType rs rt code funct).rs = rs := rfl

@[simp] theorem Fields.trapType_rt (rs rt : BitVec 5) (code : BitVec 10) (funct : BitVec 6) :
    (Fields.trapType rs rt code funct).rt = rt := rfl

@[simp] theorem Fields.address_jType (op : BitVec 6) (address : BitVec 26) : (Fields.jType op address).address = address := by
  simp only [Fields.address, Fields.jType]; ext i hi; simp; grind

@[simp] theorem Fields.code20_codeType (code : BitVec 20) (funct : BitVec 6) : (Fields.codeType code funct).code20 = code := by
  simp only [Fields.code20, Fields.codeType]; ext i hi; simp; grind

@[simp] theorem Fields.code10_trapType (rs rt : BitVec 5) (code : BitVec 10) (funct : BitVec 6) :
    (Fields.trapType rs rt code funct).code10 = code := by
  simp only [Fields.code10, Fields.trapType]; ext i hi; simp; grind

@[simp] theorem cc_join_low (cc : CcNum) : (cc ++ 0#2 : BitVec 5).extractLsb' 0 2 = 0#2 := by revert cc; decide

@[simp] theorem cc_join_high (cc : CcNum) : (cc ++ 0#2 : BitVec 5).extractLsb' 2 3 = cc := by revert cc; decide

@[simp] theorem cc_join_false (cc : CcNum) : (cc ++ 0#1 ++ 0#1 : BitVec 5).extractLsb' 0 2 = 0#2 := by revert cc; decide

@[simp] theorem cc_join_true (cc : CcNum) : (cc ++ 0#1 ++ 1#1 : BitVec 5).extractLsb' 0 2 = 1#2 := by revert cc; decide

@[simp] theorem cc_join_branch (cc : CcNum) (tf : BitVec 1) : (cc ++ 0#1 ++ tf : BitVec 5).extractLsb' 2 3 = cc := by
  revert cc tf; decide

/-- The other way: fields joined and split again are the fields (R82, R83, R88, R95). -/
@[simp] theorem Fields.iType_imm (f : Fields) : Fields.iType f.op f.rs f.rt f.imm = f := by
  obtain ⟨op, rs, rt, rd, shamt, funct⟩ := f
  simp only [Fields.imm, Fields.iType, Fields.mk.injEq, true_and]
  refine ⟨?_, ?_, ?_⟩ <;> ext i hi <;> simp only [BitVec.getElem_extractLsb', BitVec.getLsbD_append] <;> grind

@[simp] theorem Fields.jType_address (f : Fields) : Fields.jType f.op f.address = f := by
  obtain ⟨op, rs, rt, rd, shamt, funct⟩ := f
  simp only [Fields.address, Fields.jType, Fields.mk.injEq, true_and]
  refine ⟨?_, ?_, ?_, ?_, ?_⟩ <;> ext i hi <;> simp only [BitVec.getElem_extractLsb', BitVec.getLsbD_append] <;> grind

theorem Fields.codeType_code20 {f : Fields} (h : f.op = 0#6) : Fields.codeType f.code20 f.funct = f := by
  obtain ⟨op, rs, rt, rd, shamt, funct⟩ := f
  subst h
  simp only [Fields.code20, Fields.codeType, Fields.mk.injEq, true_and, and_true]
  refine ⟨?_, ?_, ?_, ?_⟩ <;> ext i hi <;> simp only [BitVec.getElem_extractLsb', BitVec.getLsbD_append] <;> grind

theorem Fields.trapType_code10 {f : Fields} (h : f.op = 0#6) : Fields.trapType f.rs f.rt f.code10 f.funct = f := by
  obtain ⟨op, rs, rt, rd, shamt, funct⟩ := f
  subst h
  simp only [Fields.code10, Fields.trapType, Fields.mk.injEq, true_and, and_true]
  refine ⟨?_, ?_⟩ <;> ext i hi <;> simp only [BitVec.getElem_extractLsb', BitVec.getLsbD_append] <;> grind

theorem cc_split_compare (v : BitVec 5) (h : v.extractLsb' 0 2 = 0#2) : v.extractLsb' 2 3 ++ 0#2 = v := by
  revert v; decide

theorem cc_split_false (v : BitVec 5) (h : v.extractLsb' 0 2 = 0#2) : v.extractLsb' 2 3 ++ 0#1 ++ 0#1 = v := by
  revert v; decide

theorem cc_split_true (v : BitVec 5) (h : v.extractLsb' 0 2 = 1#2) : v.extractLsb' 2 3 ++ 0#1 ++ 1#1 = v := by
  revert v; decide

/-- The eight flag numbers (R34): with `cc` a numeral, the decoder runs by `rfl`. -/
theorem ccNum_cases (cc : CcNum) :
    cc = 0#3 ∨ cc = 1#3 ∨ cc = 2#3 ∨ cc = 3#3 ∨ cc = 4#3 ∨ cc = 5#3 ∨ cc = 6#3 ∨ cc = 7#3 := by
  revert cc; decide

/-- A word of a format is the join of the fields that the encoder gives it (R81 to R84, R88, R95). -/
theorem iWord_eq (op : BitVec 6) (rs rt : BitVec 5) (imm : BitVec 16) :
    Machine.iWord op rs rt imm = (Fields.iType op rs rt imm).toWord := by
  simp only [Machine.iWord, Fields.iType, Fields.toWord]
  ext i hi; simp; grind

theorem jWord_eq (op : BitVec 6) (address : BitVec 26) : Machine.jWord op address = (Fields.jType op address).toWord := by
  rw [← Fields.toWord_ofWord (Machine.jWord op address)]
  congr 1
  simp only [Machine.jWord, Fields.ofWord, Fields.jType, Fields.mk.injEq]
  refine ⟨?_, ?_, ?_, ?_, ?_, ?_⟩ <;> ext i hi <;> simp only [BitVec.getElem_extractLsb', BitVec.getLsbD_append] <;> grind

theorem rWord_eq (rs rt rd shamt : BitVec 5) (funct : BitVec 6) :
    Machine.rWord rs rt rd shamt funct = (Fields.special rs rt rd shamt funct).toWord := rfl

theorem frWord_eq (fmt ft fs fd : BitVec 5) (funct : BitVec 6) :
    Machine.frWord fmt ft fs fd funct = (Fields.frType fmt ft fs fd funct).toWord := rfl

theorem compareWord_eq (fmt ft fs : BitVec 5) (cc : CcNum) (funct : BitVec 6) :
    Machine.compareWord fmt ft fs cc funct = (Fields.compareType fmt ft fs cc funct).toWord := by
  rw [← Fields.toWord_ofWord (Machine.compareWord fmt ft fs cc funct)]
  congr 1
  simp only [Machine.compareWord, Fields.ofWord, Fields.compareType, Fields.mk.injEq]
  refine ⟨?_, ?_, ?_, ?_, ?_, ?_⟩ <;> ext i hi <;> simp only [BitVec.getElem_extractLsb', BitVec.getLsbD_append] <;> grind

theorem bc1Word_eq (cc : CcNum) (tf : BitVec 1) (imm : BitVec 16) :
    Machine.bc1Word cc tf imm = (Fields.bc1Type cc tf imm).toWord := by
  rw [Fields.bc1Type, ← iWord_eq]
  simp only [Machine.bc1Word, Machine.iWord]
  ext i hi; simp only [BitVec.getElem_append]; grind

theorem trapWord_eq (rs rt : BitVec 5) (code : BitVec 10) (funct : BitVec 6) :
    Machine.trapWord rs rt code funct = (Fields.trapType rs rt code funct).toWord := by
  rw [← Fields.toWord_ofWord (Machine.trapWord rs rt code funct)]
  congr 1
  simp only [Machine.trapWord, Fields.ofWord, Fields.trapType, Fields.mk.injEq]
  refine ⟨?_, ?_, ?_, ?_, ?_, ?_⟩ <;> ext i hi <;> simp only [BitVec.getElem_extractLsb', BitVec.getLsbD_append] <;> grind

theorem codeWord_eq (code : BitVec 20) (funct : BitVec 6) :
    Machine.codeWord code funct = (Fields.codeType code funct).toWord := by
  rw [← Fields.toWord_ofWord (Machine.codeWord code funct)]
  congr 1
  simp only [Machine.codeWord, Fields.ofWord, Fields.codeType, Fields.mk.injEq]
  refine ⟨?_, ?_, ?_, ?_, ?_, ?_⟩ <;> ext i hi <;> simp only [BitVec.getElem_extractLsb', BitVec.getLsbD_append] <;> grind

theorem cop0Word_eq (sel rt rd : BitVec 5) : Machine.cop0Word sel rt rd = (⟨0x10#6, sel, rt, rd, 0#5, 0#6⟩ : Fields).toWord := by
  simp only [Machine.cop0Word, Fields.toWord]
  ext i hi; simp only [BitVec.getElem_append]; grind

end Sys2Proof
end

