-- ==== Sys2Proof/Laws/Memory.lean ====
section
/-! SUPPORT. Memory: reading after writing, and the canonical form (`Memory.wf`), which every operation keeps. -/

namespace Sys2Proof.Machine

@[simp] theorem Memory.read_nil (a : Nat) : Memory.read [] a = Memory.unlisted := rfl

@[simp] theorem Memory.read_cons (k : Nat) (v : Byte) (m : Memory) (a : Nat) :
    Memory.read ((k, v) :: m) a = if a = k then v else Memory.read m a := rfl

theorem Memory.read_insert_of_ne {a c : Nat} (h : c ≠ a) (m : Memory) (b : Byte) :
    (Memory.insert m a b).read c = m.read c := by
  induction m with
  | nil => simp [Memory.insert, h]
  | cons x m ih =>
    obtain ⟨k, v⟩ := x
    by_cases hk : a < k <;> simp [Memory.insert, hk, h, ih]

theorem Memory.read_insert_self (m : Memory) (a : Nat) (b : Byte) (h : ∀ x ∈ m, x.1 ≠ a) :
    (Memory.insert m a b).read a = b := by
  induction m with
  | nil => simp [Memory.insert]
  | cons x m ih =>
    obtain ⟨k, v⟩ := x
    have hk : a ≠ k := fun e => h (k, v) (by simp) e.symm
    have ht : ∀ x ∈ m, x.1 ≠ a := fun x hx => h x (by simp [hx])
    by_cases hlt : a < k <;> simp [Memory.insert, hlt, hk, ih ht]

theorem Memory.read_filter_of_ne {a c : Nat} (h : c ≠ a) (m : Memory) :
    Memory.read (m.filter fun x => x.1 != a) c = m.read c := by
  induction m with
  | nil => rfl
  | cons x m ih =>
    obtain ⟨k, v⟩ := x
    by_cases hk : k = a
    · subst hk; simp [h, ih]
    · simp [hk, ih]

theorem Memory.read_of_absent (m : Memory) (a : Nat) (h : ∀ x ∈ m, x.1 ≠ a) : m.read a = Memory.unlisted := by
  induction m with
  | nil => rfl
  | cons x m ih =>
    obtain ⟨k, v⟩ := x
    have hk : a ≠ k := fun e => h (k, v) (by simp) e.symm
    simp [hk, ih fun x hx => h x (by simp [hx])]

theorem Memory.filter_absent (m : Memory) (a : Nat) : ∀ x ∈ m.filter (fun x => x.1 != a), x.1 ≠ a := by
  intro x hx; simpa using (List.mem_filter.1 hx).2

/-- What a written memory reads: the byte at its address, and everything else as before (R50, R53). -/
theorem Memory.read_write (m : Memory) (a : Nat) (b : Byte) (c : Nat) :
    (m.write a b).read c = if c = a then b else m.read c := by
  unfold Memory.write
  by_cases hb : b = Memory.unlisted
  · by_cases hc : c = a
    · subst hc; simp [hb, Memory.read_of_absent _ _ (Memory.filter_absent m c)]
    · simp [hb, hc, Memory.read_filter_of_ne hc]
  · by_cases hc : c = a
    · subst hc; simp [hb, Memory.read_insert_self _ _ _ (Memory.filter_absent m c)]
    · simp [hb, hc, Memory.read_insert_of_ne hc, Memory.read_filter_of_ne hc]

theorem Memory.mem_insert {m : Memory} {a : Nat} {b : Byte} {x : Host.Cell} (h : x ∈ Memory.insert m a b) :
    x = (a, b) ∨ x ∈ m := by
  induction m with
  | nil => simpa [Memory.insert] using h
  | cons y m ih =>
    obtain ⟨k, v⟩ := y
    by_cases hk : a < k
    · simp only [Memory.insert, hk, if_true, List.mem_cons] at h ⊢; tauto
    · simp only [Memory.insert, hk, if_false, List.mem_cons] at h ⊢
      rcases h with h | h
      · tauto
      · rcases ih h with h | h <;> tauto

theorem Memory.insert_pairwise {m : Memory} {a : Nat} {b : Byte} (hm : m.Pairwise fun c d => c.1 < d.1)
    (h : ∀ x ∈ m, x.1 ≠ a) : (Memory.insert m a b).Pairwise fun c d => c.1 < d.1 := by
  induction m with
  | nil => simp [Memory.insert]
  | cons y m ih =>
    obtain ⟨k, v⟩ := y
    have hp := List.pairwise_cons.1 hm
    have hk : k ≠ a := h (k, v) (by simp)
    by_cases hlt : a < k
    · simp only [Memory.insert, hlt, if_true, List.pairwise_cons]
      refine ⟨fun x hx => ?_, hp⟩
      rcases List.mem_cons.1 hx with rfl | hx
      · exact hlt
      · exact lt_trans hlt (hp.1 x hx)
    · simp only [Memory.insert, hlt, if_false, List.pairwise_cons]
      refine ⟨fun x hx => ?_, ih hp.2 fun x hx => h x (by simp [hx])⟩
      rcases Memory.mem_insert hx with rfl | hx
      · show k < a; omega
      · exact hp.1 x hx

/-- A write keeps the canonical form. -/
theorem Memory.wf_write {m : Memory} (h : m.wf) {a : Nat} (ha : a < 2 ^ 32) (b : Byte) : (m.write a b).wf := by
  have hf : (m.filter fun x => x.1 != a).Pairwise fun c d => c.1 < d.1 := h.1.filter _
  have hin : ∀ x ∈ m.filter (fun x => x.1 != a), x.1 < 2 ^ 32 ∧ x.2 ≠ Memory.unlisted :=
    fun x hx => h.2 x (List.mem_filter.1 hx).1
  unfold Memory.write
  by_cases hb : b = Memory.unlisted
  · simp only [hb, if_true]; exact ⟨hf, hin⟩
  · simp only [hb, if_false]
    refine ⟨Memory.insert_pairwise hf (Memory.filter_absent m a), fun x hx => ?_⟩
    rcases Memory.mem_insert hx with rfl | hx
    · exact ⟨ha, hb⟩
    · exact hin x hx

theorem Memory.read_of_lt (m : Memory) (a : Nat) (h : ∀ x ∈ m, a < x.1) : m.read a = Memory.unlisted :=
  m.read_of_absent a fun x hx => (h x hx).ne'

/-- Equal memories are equal lists: two canonical memories that read the same everywhere are one. -/
theorem Memory.ext_of_wf : ∀ {m n : Memory}, m.wf → n.wf → (∀ a, m.read a = n.read a) → m = n
  | [], [], _, _, _ => rfl
  | [], (k, v) :: n, _, hn, h => by
      have := h k; simp at this
      exact absurd this.symm (hn.2 (k, v) (by simp)).2
  | (k, v) :: m, [], hm, _, h => by
      have := h k; simp at this
      exact absurd this (hm.2 (k, v) (by simp)).2
  | (k, v) :: m, (l, w) :: n, hm, hn, h => by
      have pm := List.pairwise_cons.1 hm.1
      have pn := List.pairwise_cons.1 hn.1
      have hvm := (hm.2 (k, v) (by simp)).2
      have hvn := (hn.2 (l, w) (by simp)).2
      have kl : k = l := by
        rcases lt_trichotomy k l with hlt | he | hlt
        · have hk := h k
          rw [Memory.read_cons, if_pos rfl, Memory.read_of_lt ((l, w) :: n) k] at hk
          · exact absurd hk hvm
          · intro x hx
            rcases List.mem_cons.1 hx with rfl | hx
            · exact hlt
            · exact lt_trans hlt (pn.1 x hx)
        · exact he
        · have hl := h l
          rw [Memory.read_cons (k := l), if_pos rfl, Memory.read_of_lt ((k, v) :: m) l] at hl
          · exact absurd hl.symm hvn
          · intro x hx
            rcases List.mem_cons.1 hx with rfl | hx
            · exact hlt
            · exact lt_trans hlt (pm.1 x hx)
      subst kl
      have vw : v = w := by simpa using h k
      subst vw
      have tail : m = n := by
        refine Memory.ext_of_wf ⟨pm.2, fun x hx => hm.2 x (by simp [hx])⟩ ⟨pn.2, fun x hx => hn.2 x (by simp [hx])⟩
          fun a => ?_
        by_cases ha : a = k
        · subst ha
          rw [Memory.read_of_lt m a pm.1, Memory.read_of_lt n a pn.1]
        · simpa [ha] using h a
      rw [tail]

/-- Memory at reset is canonical. -/
theorem Memory.wf_reset : State.reset.mem.wf := by decide

/-! ### Bytes, halfwords and words of the state (R52, R53) -/

@[simp] theorem State.readByte_writeByte (s : State) (a : Word) (v : Byte) (q : Word) :
    (s.writeByte a v).readByte q = if q = a then v else s.readByte q := by
  simp [State.readByte, State.writeByte, Memory.read_write, BitVec.toNat_inj]

@[simp] theorem State.readByte_writeHalf (s : State) (a : Word) (v : BitVec 16) (q : Word) :
    (s.writeHalf a v).readByte q =
      if q = a + 1#32 then halfByte v 1 else if q = a then halfByte v 0 else s.readByte q := by
  simp [State.writeHalf]

@[simp] theorem State.readByte_writeWord (s : State) (a v q : Word) :
    (s.writeWord a v).readByte q =
      if q = a + 3#32 then wordByte v 3 else if q = a + 2#32 then wordByte v 2
      else if q = a + 1#32 then wordByte v 1 else if q = a then wordByte v 0 else s.readByte q := by
  simp [State.writeWord]

theorem State.writeByte_wf {s : State} (h : s.mem.wf) (a : Word) (v : Byte) : (s.writeByte a v).mem.wf :=
  Memory.wf_write h a.isLt v

theorem State.writeHalf_wf {s : State} (h : s.mem.wf) (a : Word) (v : BitVec 16) : (s.writeHalf a v).mem.wf :=
  State.writeByte_wf (State.writeByte_wf h _ _) _ _

theorem State.writeWord_wf {s : State} (h : s.mem.wf) (a v : Word) : (s.writeWord a v).mem.wf :=
  State.writeByte_wf (State.writeByte_wf (State.writeByte_wf (State.writeByte_wf h _ _) _ _) _ _) _ _

/-- A stored word reads back (R52, R53). -/
theorem State.readWord_writeWord (s : State) (a v : Word) : (s.writeWord a v).readWord a = v := by
  have e : wordOfBytes (wordByte v 0) (wordByte v 1) (wordByte v 2) (wordByte v 3) = v := by
    unfold wordOfBytes wordByte; ext i hi; simp; grind
  simp only [State.readWord, State.readByte_writeWord]
  simpa [BitVec.add_assoc] using e

end Sys2Proof.Machine
end

