-- ==== Sys2Proof/Laws/State.lean ====
section
/-! SUPPORT. What each update of the state does to each field: one lemma per field and update, so that no later proof unfolds
an update. -/

namespace Sys2Proof.Machine

/-! ### `advance` -/

@[simp] theorem State.advance_gpr (s : State) : (s.advance).gpr = s.gpr := rfl

@[simp] theorem State.advance_pc (s : State) : (s.advance).pc = s.npc := rfl

@[simp] theorem State.advance_npc (s : State) : (s.advance).npc = s.npc + 4#32 := rfl

@[simp] theorem State.advance_bd (s : State) : (s.advance).bd = false := rfl

@[simp] theorem State.advance_hi (s : State) : (s.advance).hi = s.hi := rfl

@[simp] theorem State.advance_lo (s : State) : (s.advance).lo = s.lo := rfl

@[simp] theorem State.advance_fpr (s : State) : (s.advance).fpr = s.fpr := rfl

@[simp] theorem State.advance_cc (s : State) : (s.advance).cc = s.cc := rfl

@[simp] theorem State.advance_status (s : State) : (s.advance).status = s.status := rfl

@[simp] theorem State.advance_cause (s : State) : (s.advance).cause = s.cause := rfl

@[simp] theorem State.advance_epc (s : State) : (s.advance).epc = s.epc := rfl

@[simp] theorem State.advance_badVAddr (s : State) : (s.advance).badVAddr = s.badVAddr := rfl

@[simp] theorem State.advance_llBit (s : State) : (s.advance).llBit = s.llBit := rfl

@[simp] theorem State.advance_llAddr (s : State) : (s.advance).llAddr = s.llAddr := rfl

@[simp] theorem State.advance_mem (s : State) : (s.advance).mem = s.mem := rfl

@[simp] theorem State.advance_irq (s : State) : (s.advance).irq = s.irq := rfl

@[simp] theorem State.advance_params (s : State) : (s.advance).params = s.params := rfl

@[simp] theorem State.advance_draws (s : State) : (s.advance).draws = s.draws := rfl

/-! ### `transfer` -/

@[simp] theorem State.transfer_gpr (s : State) (c : Bool) (a : Word) : (s.transfer c a).gpr = s.gpr := rfl

@[simp] theorem State.transfer_pc (s : State) (c : Bool) (a : Word) : (s.transfer c a).pc = s.npc := rfl

@[simp] theorem State.transfer_npc (s : State) (c : Bool) (a : Word) : (s.transfer c a).npc = (if c then a else s.npc + 4#32) := rfl

@[simp] theorem State.transfer_bd (s : State) (c : Bool) (a : Word) : (s.transfer c a).bd = true := rfl

@[simp] theorem State.transfer_hi (s : State) (c : Bool) (a : Word) : (s.transfer c a).hi = s.hi := rfl

@[simp] theorem State.transfer_lo (s : State) (c : Bool) (a : Word) : (s.transfer c a).lo = s.lo := rfl

@[simp] theorem State.transfer_fpr (s : State) (c : Bool) (a : Word) : (s.transfer c a).fpr = s.fpr := rfl

@[simp] theorem State.transfer_cc (s : State) (c : Bool) (a : Word) : (s.transfer c a).cc = s.cc := rfl

@[simp] theorem State.transfer_status (s : State) (c : Bool) (a : Word) : (s.transfer c a).status = s.status := rfl

@[simp] theorem State.transfer_cause (s : State) (c : Bool) (a : Word) : (s.transfer c a).cause = s.cause := rfl

@[simp] theorem State.transfer_epc (s : State) (c : Bool) (a : Word) : (s.transfer c a).epc = s.epc := rfl

@[simp] theorem State.transfer_badVAddr (s : State) (c : Bool) (a : Word) : (s.transfer c a).badVAddr = s.badVAddr := rfl

@[simp] theorem State.transfer_llBit (s : State) (c : Bool) (a : Word) : (s.transfer c a).llBit = s.llBit := rfl

@[simp] theorem State.transfer_llAddr (s : State) (c : Bool) (a : Word) : (s.transfer c a).llAddr = s.llAddr := rfl

@[simp] theorem State.transfer_mem (s : State) (c : Bool) (a : Word) : (s.transfer c a).mem = s.mem := rfl

@[simp] theorem State.transfer_irq (s : State) (c : Bool) (a : Word) : (s.transfer c a).irq = s.irq := rfl

@[simp] theorem State.transfer_params (s : State) (c : Bool) (a : Word) : (s.transfer c a).params = s.params := rfl

@[simp] theorem State.transfer_draws (s : State) (c : Bool) (a : Word) : (s.transfer c a).draws = s.draws := rfl

/-! ### `raise` -/

@[simp] theorem State.raise_gpr (s : State) (e : Exception) : (s.raise e).gpr = s.gpr := rfl

@[simp] theorem State.raise_pc (s : State) (e : Exception) : (s.raise e).pc = s.params.excVector := rfl

@[simp] theorem State.raise_npc (s : State) (e : Exception) : (s.raise e).npc = s.params.excVector + 4#32 := rfl

@[simp] theorem State.raise_bd (s : State) (e : Exception) : (s.raise e).bd = false := rfl

@[simp] theorem State.raise_hi (s : State) (e : Exception) : (s.raise e).hi = s.hi := rfl

@[simp] theorem State.raise_lo (s : State) (e : Exception) : (s.raise e).lo = s.lo := rfl

@[simp] theorem State.raise_fpr (s : State) (e : Exception) : (s.raise e).fpr = s.fpr := rfl

@[simp] theorem State.raise_cc (s : State) (e : Exception) : (s.raise e).cc = s.cc := rfl

@[simp] theorem State.raise_status (s : State) (e : Exception) : (s.raise e).status = { s.status with el := true } := rfl

@[simp] theorem State.raise_cause (s : State) (e : Exception) : (s.raise e).cause = { bd := if s.status.el then s.cause.bd else s.bd, excCode := e.code } := rfl

@[simp] theorem State.raise_epc (s : State) (e : Exception) : (s.raise e).epc = (if s.status.el then s.epc else if s.bd then s.pc - 4#32 else s.pc) := rfl

@[simp] theorem State.raise_badVAddr (s : State) (e : Exception) : (s.raise e).badVAddr = e.badAddr.getD s.badVAddr := rfl

@[simp] theorem State.raise_llBit (s : State) (e : Exception) : (s.raise e).llBit = false := rfl

@[simp] theorem State.raise_llAddr (s : State) (e : Exception) : (s.raise e).llAddr = s.llAddr := rfl

@[simp] theorem State.raise_mem (s : State) (e : Exception) : (s.raise e).mem = s.mem := rfl

@[simp] theorem State.raise_irq (s : State) (e : Exception) : (s.raise e).irq = s.irq := rfl

@[simp] theorem State.raise_params (s : State) (e : Exception) : (s.raise e).params = s.params := rfl

@[simp] theorem State.raise_draws (s : State) (e : Exception) : (s.raise e).draws = s.draws := rfl

/-! ### `exceptionReturn` -/

@[simp] theorem State.exceptionReturn_gpr (s : State) : (s.exceptionReturn).gpr = s.gpr := rfl

@[simp] theorem State.exceptionReturn_pc (s : State) : (s.exceptionReturn).pc = s.epc := rfl

@[simp] theorem State.exceptionReturn_npc (s : State) : (s.exceptionReturn).npc = s.epc + 4#32 := rfl

@[simp] theorem State.exceptionReturn_bd (s : State) : (s.exceptionReturn).bd = false := rfl

@[simp] theorem State.exceptionReturn_hi (s : State) : (s.exceptionReturn).hi = s.hi := rfl

@[simp] theorem State.exceptionReturn_lo (s : State) : (s.exceptionReturn).lo = s.lo := rfl

@[simp] theorem State.exceptionReturn_fpr (s : State) : (s.exceptionReturn).fpr = s.fpr := rfl

@[simp] theorem State.exceptionReturn_cc (s : State) : (s.exceptionReturn).cc = s.cc := rfl

@[simp] theorem State.exceptionReturn_status (s : State) : (s.exceptionReturn).status = { s.status with el := false } := rfl

@[simp] theorem State.exceptionReturn_cause (s : State) : (s.exceptionReturn).cause = s.cause := rfl

@[simp] theorem State.exceptionReturn_epc (s : State) : (s.exceptionReturn).epc = s.epc := rfl

@[simp] theorem State.exceptionReturn_badVAddr (s : State) : (s.exceptionReturn).badVAddr = s.badVAddr := rfl

@[simp] theorem State.exceptionReturn_llBit (s : State) : (s.exceptionReturn).llBit = false := rfl

@[simp] theorem State.exceptionReturn_llAddr (s : State) : (s.exceptionReturn).llAddr = s.llAddr := rfl

@[simp] theorem State.exceptionReturn_mem (s : State) : (s.exceptionReturn).mem = s.mem := rfl

@[simp] theorem State.exceptionReturn_irq (s : State) : (s.exceptionReturn).irq = s.irq := rfl

@[simp] theorem State.exceptionReturn_params (s : State) : (s.exceptionReturn).params = s.params := rfl

@[simp] theorem State.exceptionReturn_draws (s : State) : (s.exceptionReturn).draws = s.draws := rfl

/-! ### `tick` -/

@[simp] theorem State.tick_gpr (s : State) : (s.tick).gpr = s.gpr := rfl

@[simp] theorem State.tick_pc (s : State) : (s.tick).pc = s.pc := rfl

@[simp] theorem State.tick_npc (s : State) : (s.tick).npc = s.npc := rfl

@[simp] theorem State.tick_bd (s : State) : (s.tick).bd = s.bd := rfl

@[simp] theorem State.tick_hi (s : State) : (s.tick).hi = s.hi := rfl

@[simp] theorem State.tick_lo (s : State) : (s.tick).lo = s.lo := rfl

@[simp] theorem State.tick_fpr (s : State) : (s.tick).fpr = s.fpr := rfl

@[simp] theorem State.tick_cc (s : State) : (s.tick).cc = s.cc := rfl

@[simp] theorem State.tick_status (s : State) : (s.tick).status = s.status := rfl

@[simp] theorem State.tick_cause (s : State) : (s.tick).cause = s.cause := rfl

@[simp] theorem State.tick_epc (s : State) : (s.tick).epc = s.epc := rfl

@[simp] theorem State.tick_badVAddr (s : State) : (s.tick).badVAddr = s.badVAddr := rfl

@[simp] theorem State.tick_llBit (s : State) : (s.tick).llBit = s.llBit := rfl

@[simp] theorem State.tick_llAddr (s : State) : (s.tick).llAddr = s.llAddr := rfl

@[simp] theorem State.tick_mem (s : State) : (s.tick).mem = s.mem := rfl

@[simp] theorem State.tick_irq (s : State) : (s.tick).irq = s.irq.tail := rfl

@[simp] theorem State.tick_params (s : State) : (s.tick).params = s.params := rfl

@[simp] theorem State.tick_draws (s : State) : (s.tick).draws = s.draws := rfl

/-! ### `drawn` -/

@[simp] theorem State.drawn_gpr (s : State) : (s.drawn).gpr = s.gpr := rfl

@[simp] theorem State.drawn_pc (s : State) : (s.drawn).pc = s.pc := rfl

@[simp] theorem State.drawn_npc (s : State) : (s.drawn).npc = s.npc := rfl

@[simp] theorem State.drawn_bd (s : State) : (s.drawn).bd = s.bd := rfl

@[simp] theorem State.drawn_hi (s : State) : (s.drawn).hi = s.hi := rfl

@[simp] theorem State.drawn_lo (s : State) : (s.drawn).lo = s.lo := rfl

@[simp] theorem State.drawn_fpr (s : State) : (s.drawn).fpr = s.fpr := rfl

@[simp] theorem State.drawn_cc (s : State) : (s.drawn).cc = s.cc := rfl

@[simp] theorem State.drawn_status (s : State) : (s.drawn).status = s.status := rfl

@[simp] theorem State.drawn_cause (s : State) : (s.drawn).cause = s.cause := rfl

@[simp] theorem State.drawn_epc (s : State) : (s.drawn).epc = s.epc := rfl

@[simp] theorem State.drawn_badVAddr (s : State) : (s.drawn).badVAddr = s.badVAddr := rfl

@[simp] theorem State.drawn_llBit (s : State) : (s.drawn).llBit = s.llBit := rfl

@[simp] theorem State.drawn_llAddr (s : State) : (s.drawn).llAddr = s.llAddr := rfl

@[simp] theorem State.drawn_mem (s : State) : (s.drawn).mem = s.mem := rfl

@[simp] theorem State.drawn_irq (s : State) : (s.drawn).irq = s.irq := rfl

@[simp] theorem State.drawn_params (s : State) : (s.drawn).params = s.params := rfl

@[simp] theorem State.drawn_draws (s : State) : (s.drawn).draws = s.draws + 1 := rfl

/-! ### `setLink` -/

@[simp] theorem State.setLink_gpr (s : State) (a : Word) : (s.setLink a).gpr = s.gpr := rfl

@[simp] theorem State.setLink_pc (s : State) (a : Word) : (s.setLink a).pc = s.pc := rfl

@[simp] theorem State.setLink_npc (s : State) (a : Word) : (s.setLink a).npc = s.npc := rfl

@[simp] theorem State.setLink_bd (s : State) (a : Word) : (s.setLink a).bd = s.bd := rfl

@[simp] theorem State.setLink_hi (s : State) (a : Word) : (s.setLink a).hi = s.hi := rfl

@[simp] theorem State.setLink_lo (s : State) (a : Word) : (s.setLink a).lo = s.lo := rfl

@[simp] theorem State.setLink_fpr (s : State) (a : Word) : (s.setLink a).fpr = s.fpr := rfl

@[simp] theorem State.setLink_cc (s : State) (a : Word) : (s.setLink a).cc = s.cc := rfl

@[simp] theorem State.setLink_status (s : State) (a : Word) : (s.setLink a).status = s.status := rfl

@[simp] theorem State.setLink_cause (s : State) (a : Word) : (s.setLink a).cause = s.cause := rfl

@[simp] theorem State.setLink_epc (s : State) (a : Word) : (s.setLink a).epc = s.epc := rfl

@[simp] theorem State.setLink_badVAddr (s : State) (a : Word) : (s.setLink a).badVAddr = s.badVAddr := rfl

@[simp] theorem State.setLink_llBit (s : State) (a : Word) : (s.setLink a).llBit = true := rfl

@[simp] theorem State.setLink_llAddr (s : State) (a : Word) : (s.setLink a).llAddr = a := rfl

@[simp] theorem State.setLink_mem (s : State) (a : Word) : (s.setLink a).mem = s.mem := rfl

@[simp] theorem State.setLink_irq (s : State) (a : Word) : (s.setLink a).irq = s.irq := rfl

@[simp] theorem State.setLink_params (s : State) (a : Word) : (s.setLink a).params = s.params := rfl

@[simp] theorem State.setLink_draws (s : State) (a : Word) : (s.setLink a).draws = s.draws := rfl

/-! ### `clearLink` -/

@[simp] theorem State.clearLink_gpr (s : State) : (s.clearLink).gpr = s.gpr := rfl

@[simp] theorem State.clearLink_pc (s : State) : (s.clearLink).pc = s.pc := rfl

@[simp] theorem State.clearLink_npc (s : State) : (s.clearLink).npc = s.npc := rfl

@[simp] theorem State.clearLink_bd (s : State) : (s.clearLink).bd = s.bd := rfl

@[simp] theorem State.clearLink_hi (s : State) : (s.clearLink).hi = s.hi := rfl

@[simp] theorem State.clearLink_lo (s : State) : (s.clearLink).lo = s.lo := rfl

@[simp] theorem State.clearLink_fpr (s : State) : (s.clearLink).fpr = s.fpr := rfl

@[simp] theorem State.clearLink_cc (s : State) : (s.clearLink).cc = s.cc := rfl

@[simp] theorem State.clearLink_status (s : State) : (s.clearLink).status = s.status := rfl

@[simp] theorem State.clearLink_cause (s : State) : (s.clearLink).cause = s.cause := rfl

@[simp] theorem State.clearLink_epc (s : State) : (s.clearLink).epc = s.epc := rfl

@[simp] theorem State.clearLink_badVAddr (s : State) : (s.clearLink).badVAddr = s.badVAddr := rfl

@[simp] theorem State.clearLink_llBit (s : State) : (s.clearLink).llBit = false := rfl

@[simp] theorem State.clearLink_llAddr (s : State) : (s.clearLink).llAddr = s.llAddr := rfl

@[simp] theorem State.clearLink_mem (s : State) : (s.clearLink).mem = s.mem := rfl

@[simp] theorem State.clearLink_irq (s : State) : (s.clearLink).irq = s.irq := rfl

@[simp] theorem State.clearLink_params (s : State) : (s.clearLink).params = s.params := rfl

@[simp] theorem State.clearLink_draws (s : State) : (s.clearLink).draws = s.draws := rfl

/-! ### `writeX` -/

@[simp] theorem State.writeX_pc (s : State) (r : Reg) (v : Word) : (s.writeX r v).pc = s.pc := by
  unfold State.writeX; split <;> rfl

@[simp] theorem State.writeX_npc (s : State) (r : Reg) (v : Word) : (s.writeX r v).npc = s.npc := by
  unfold State.writeX; split <;> rfl

@[simp] theorem State.writeX_bd (s : State) (r : Reg) (v : Word) : (s.writeX r v).bd = s.bd := by
  unfold State.writeX; split <;> rfl

@[simp] theorem State.writeX_hi (s : State) (r : Reg) (v : Word) : (s.writeX r v).hi = s.hi := by
  unfold State.writeX; split <;> rfl

@[simp] theorem State.writeX_lo (s : State) (r : Reg) (v : Word) : (s.writeX r v).lo = s.lo := by
  unfold State.writeX; split <;> rfl

@[simp] theorem State.writeX_fpr (s : State) (r : Reg) (v : Word) : (s.writeX r v).fpr = s.fpr := by
  unfold State.writeX; split <;> rfl

@[simp] theorem State.writeX_cc (s : State) (r : Reg) (v : Word) : (s.writeX r v).cc = s.cc := by
  unfold State.writeX; split <;> rfl

@[simp] theorem State.writeX_status (s : State) (r : Reg) (v : Word) : (s.writeX r v).status = s.status := by
  unfold State.writeX; split <;> rfl

@[simp] theorem State.writeX_cause (s : State) (r : Reg) (v : Word) : (s.writeX r v).cause = s.cause := by
  unfold State.writeX; split <;> rfl

@[simp] theorem State.writeX_epc (s : State) (r : Reg) (v : Word) : (s.writeX r v).epc = s.epc := by
  unfold State.writeX; split <;> rfl

@[simp] theorem State.writeX_badVAddr (s : State) (r : Reg) (v : Word) : (s.writeX r v).badVAddr = s.badVAddr := by
  unfold State.writeX; split <;> rfl

@[simp] theorem State.writeX_llBit (s : State) (r : Reg) (v : Word) : (s.writeX r v).llBit = s.llBit := by
  unfold State.writeX; split <;> rfl

@[simp] theorem State.writeX_llAddr (s : State) (r : Reg) (v : Word) : (s.writeX r v).llAddr = s.llAddr := by
  unfold State.writeX; split <;> rfl

@[simp] theorem State.writeX_mem (s : State) (r : Reg) (v : Word) : (s.writeX r v).mem = s.mem := by
  unfold State.writeX; split <;> rfl

@[simp] theorem State.writeX_irq (s : State) (r : Reg) (v : Word) : (s.writeX r v).irq = s.irq := by
  unfold State.writeX; split <;> rfl

@[simp] theorem State.writeX_params (s : State) (r : Reg) (v : Word) : (s.writeX r v).params = s.params := by
  unfold State.writeX; split <;> rfl

@[simp] theorem State.writeX_draws (s : State) (r : Reg) (v : Word) : (s.writeX r v).draws = s.draws := by
  unfold State.writeX; split <;> rfl

/-! ### `writeF` -/

@[simp] theorem State.writeF_gpr (s : State) (n : FReg) (v : Word) : (s.writeF n v).gpr = s.gpr := rfl

@[simp] theorem State.writeF_pc (s : State) (n : FReg) (v : Word) : (s.writeF n v).pc = s.pc := rfl

@[simp] theorem State.writeF_npc (s : State) (n : FReg) (v : Word) : (s.writeF n v).npc = s.npc := rfl

@[simp] theorem State.writeF_bd (s : State) (n : FReg) (v : Word) : (s.writeF n v).bd = s.bd := rfl

@[simp] theorem State.writeF_hi (s : State) (n : FReg) (v : Word) : (s.writeF n v).hi = s.hi := rfl

@[simp] theorem State.writeF_lo (s : State) (n : FReg) (v : Word) : (s.writeF n v).lo = s.lo := rfl

@[simp] theorem State.writeF_fpr (s : State) (n : FReg) (v : Word) : (s.writeF n v).fpr = s.fpr.set n.toNat v n.isLt := rfl

@[simp] theorem State.writeF_cc (s : State) (n : FReg) (v : Word) : (s.writeF n v).cc = s.cc := rfl

@[simp] theorem State.writeF_status (s : State) (n : FReg) (v : Word) : (s.writeF n v).status = s.status := rfl

@[simp] theorem State.writeF_cause (s : State) (n : FReg) (v : Word) : (s.writeF n v).cause = s.cause := rfl

@[simp] theorem State.writeF_epc (s : State) (n : FReg) (v : Word) : (s.writeF n v).epc = s.epc := rfl

@[simp] theorem State.writeF_badVAddr (s : State) (n : FReg) (v : Word) : (s.writeF n v).badVAddr = s.badVAddr := rfl

@[simp] theorem State.writeF_llBit (s : State) (n : FReg) (v : Word) : (s.writeF n v).llBit = s.llBit := rfl

@[simp] theorem State.writeF_llAddr (s : State) (n : FReg) (v : Word) : (s.writeF n v).llAddr = s.llAddr := rfl

@[simp] theorem State.writeF_mem (s : State) (n : FReg) (v : Word) : (s.writeF n v).mem = s.mem := rfl

@[simp] theorem State.writeF_irq (s : State) (n : FReg) (v : Word) : (s.writeF n v).irq = s.irq := rfl

@[simp] theorem State.writeF_params (s : State) (n : FReg) (v : Word) : (s.writeF n v).params = s.params := rfl

@[simp] theorem State.writeF_draws (s : State) (n : FReg) (v : Word) : (s.writeF n v).draws = s.draws := rfl

/-! ### `writeD` -/

@[simp] theorem State.writeD_gpr (s : State) (n : FReg) (v : DWord) : (s.writeD n v).gpr = s.gpr := by
  unfold State.writeD; split <;> rfl

@[simp] theorem State.writeD_pc (s : State) (n : FReg) (v : DWord) : (s.writeD n v).pc = s.pc := by
  unfold State.writeD; split <;> rfl

@[simp] theorem State.writeD_npc (s : State) (n : FReg) (v : DWord) : (s.writeD n v).npc = s.npc := by
  unfold State.writeD; split <;> rfl

@[simp] theorem State.writeD_bd (s : State) (n : FReg) (v : DWord) : (s.writeD n v).bd = s.bd := by
  unfold State.writeD; split <;> rfl

@[simp] theorem State.writeD_hi (s : State) (n : FReg) (v : DWord) : (s.writeD n v).hi = s.hi := by
  unfold State.writeD; split <;> rfl

@[simp] theorem State.writeD_lo (s : State) (n : FReg) (v : DWord) : (s.writeD n v).lo = s.lo := by
  unfold State.writeD; split <;> rfl

@[simp] theorem State.writeD_cc (s : State) (n : FReg) (v : DWord) : (s.writeD n v).cc = s.cc := by
  unfold State.writeD; split <;> rfl

@[simp] theorem State.writeD_status (s : State) (n : FReg) (v : DWord) : (s.writeD n v).status = s.status := by
  unfold State.writeD; split <;> rfl

@[simp] theorem State.writeD_cause (s : State) (n : FReg) (v : DWord) : (s.writeD n v).cause = s.cause := by
  unfold State.writeD; split <;> rfl

@[simp] theorem State.writeD_epc (s : State) (n : FReg) (v : DWord) : (s.writeD n v).epc = s.epc := by
  unfold State.writeD; split <;> rfl

@[simp] theorem State.writeD_badVAddr (s : State) (n : FReg) (v : DWord) : (s.writeD n v).badVAddr = s.badVAddr := by
  unfold State.writeD; split <;> rfl

@[simp] theorem State.writeD_llBit (s : State) (n : FReg) (v : DWord) : (s.writeD n v).llBit = s.llBit := by
  unfold State.writeD; split <;> rfl

@[simp] theorem State.writeD_llAddr (s : State) (n : FReg) (v : DWord) : (s.writeD n v).llAddr = s.llAddr := by
  unfold State.writeD; split <;> rfl

@[simp] theorem State.writeD_mem (s : State) (n : FReg) (v : DWord) : (s.writeD n v).mem = s.mem := by
  unfold State.writeD; split <;> rfl

@[simp] theorem State.writeD_irq (s : State) (n : FReg) (v : DWord) : (s.writeD n v).irq = s.irq := by
  unfold State.writeD; split <;> rfl

@[simp] theorem State.writeD_params (s : State) (n : FReg) (v : DWord) : (s.writeD n v).params = s.params := by
  unfold State.writeD; split <;> rfl

@[simp] theorem State.writeD_draws (s : State) (n : FReg) (v : DWord) : (s.writeD n v).draws = s.draws := by
  unfold State.writeD; split <;> rfl

/-! ### `writeCc` -/

@[simp] theorem State.writeCc_gpr (s : State) (n : CcNum) (b : Bool) : (s.writeCc n b).gpr = s.gpr := rfl

@[simp] theorem State.writeCc_pc (s : State) (n : CcNum) (b : Bool) : (s.writeCc n b).pc = s.pc := rfl

@[simp] theorem State.writeCc_npc (s : State) (n : CcNum) (b : Bool) : (s.writeCc n b).npc = s.npc := rfl

@[simp] theorem State.writeCc_bd (s : State) (n : CcNum) (b : Bool) : (s.writeCc n b).bd = s.bd := rfl

@[simp] theorem State.writeCc_hi (s : State) (n : CcNum) (b : Bool) : (s.writeCc n b).hi = s.hi := rfl

@[simp] theorem State.writeCc_lo (s : State) (n : CcNum) (b : Bool) : (s.writeCc n b).lo = s.lo := rfl

@[simp] theorem State.writeCc_fpr (s : State) (n : CcNum) (b : Bool) : (s.writeCc n b).fpr = s.fpr := rfl

@[simp] theorem State.writeCc_cc (s : State) (n : CcNum) (b : Bool) : (s.writeCc n b).cc = s.cc.set n.toNat b n.isLt := rfl

@[simp] theorem State.writeCc_status (s : State) (n : CcNum) (b : Bool) : (s.writeCc n b).status = s.status := rfl

@[simp] theorem State.writeCc_cause (s : State) (n : CcNum) (b : Bool) : (s.writeCc n b).cause = s.cause := rfl

@[simp] theorem State.writeCc_epc (s : State) (n : CcNum) (b : Bool) : (s.writeCc n b).epc = s.epc := rfl

@[simp] theorem State.writeCc_badVAddr (s : State) (n : CcNum) (b : Bool) : (s.writeCc n b).badVAddr = s.badVAddr := rfl

@[simp] theorem State.writeCc_llBit (s : State) (n : CcNum) (b : Bool) : (s.writeCc n b).llBit = s.llBit := rfl

@[simp] theorem State.writeCc_llAddr (s : State) (n : CcNum) (b : Bool) : (s.writeCc n b).llAddr = s.llAddr := rfl

@[simp] theorem State.writeCc_mem (s : State) (n : CcNum) (b : Bool) : (s.writeCc n b).mem = s.mem := rfl

@[simp] theorem State.writeCc_irq (s : State) (n : CcNum) (b : Bool) : (s.writeCc n b).irq = s.irq := rfl

@[simp] theorem State.writeCc_params (s : State) (n : CcNum) (b : Bool) : (s.writeCc n b).params = s.params := rfl

@[simp] theorem State.writeCc_draws (s : State) (n : CcNum) (b : Bool) : (s.writeCc n b).draws = s.draws := rfl

/-! ### `writeByte` -/

@[simp] theorem State.writeByte_gpr (s : State) (a : Word) (v : Byte) : (s.writeByte a v).gpr = s.gpr := rfl

@[simp] theorem State.writeByte_pc (s : State) (a : Word) (v : Byte) : (s.writeByte a v).pc = s.pc := rfl

@[simp] theorem State.writeByte_npc (s : State) (a : Word) (v : Byte) : (s.writeByte a v).npc = s.npc := rfl

@[simp] theorem State.writeByte_bd (s : State) (a : Word) (v : Byte) : (s.writeByte a v).bd = s.bd := rfl

@[simp] theorem State.writeByte_hi (s : State) (a : Word) (v : Byte) : (s.writeByte a v).hi = s.hi := rfl

@[simp] theorem State.writeByte_lo (s : State) (a : Word) (v : Byte) : (s.writeByte a v).lo = s.lo := rfl

@[simp] theorem State.writeByte_fpr (s : State) (a : Word) (v : Byte) : (s.writeByte a v).fpr = s.fpr := rfl

@[simp] theorem State.writeByte_cc (s : State) (a : Word) (v : Byte) : (s.writeByte a v).cc = s.cc := rfl

@[simp] theorem State.writeByte_status (s : State) (a : Word) (v : Byte) : (s.writeByte a v).status = s.status := rfl

@[simp] theorem State.writeByte_cause (s : State) (a : Word) (v : Byte) : (s.writeByte a v).cause = s.cause := rfl

@[simp] theorem State.writeByte_epc (s : State) (a : Word) (v : Byte) : (s.writeByte a v).epc = s.epc := rfl

@[simp] theorem State.writeByte_badVAddr (s : State) (a : Word) (v : Byte) : (s.writeByte a v).badVAddr = s.badVAddr := rfl

@[simp] theorem State.writeByte_llBit (s : State) (a : Word) (v : Byte) : (s.writeByte a v).llBit = s.llBit := rfl

@[simp] theorem State.writeByte_llAddr (s : State) (a : Word) (v : Byte) : (s.writeByte a v).llAddr = s.llAddr := rfl

@[simp] theorem State.writeByte_irq (s : State) (a : Word) (v : Byte) : (s.writeByte a v).irq = s.irq := rfl

@[simp] theorem State.writeByte_params (s : State) (a : Word) (v : Byte) : (s.writeByte a v).params = s.params := rfl

@[simp] theorem State.writeByte_draws (s : State) (a : Word) (v : Byte) : (s.writeByte a v).draws = s.draws := rfl

/-! ### `writeHalf` -/

@[simp] theorem State.writeHalf_gpr (s : State) (a : Word) (v : BitVec 16) : (s.writeHalf a v).gpr = s.gpr := by
  simp only [State.writeHalf, State.writeByte_gpr]

@[simp] theorem State.writeHalf_pc (s : State) (a : Word) (v : BitVec 16) : (s.writeHalf a v).pc = s.pc := by
  simp only [State.writeHalf, State.writeByte_pc]

@[simp] theorem State.writeHalf_npc (s : State) (a : Word) (v : BitVec 16) : (s.writeHalf a v).npc = s.npc := by
  simp only [State.writeHalf, State.writeByte_npc]

@[simp] theorem State.writeHalf_bd (s : State) (a : Word) (v : BitVec 16) : (s.writeHalf a v).bd = s.bd := by
  simp only [State.writeHalf, State.writeByte_bd]

@[simp] theorem State.writeHalf_hi (s : State) (a : Word) (v : BitVec 16) : (s.writeHalf a v).hi = s.hi := by
  simp only [State.writeHalf, State.writeByte_hi]

@[simp] theorem State.writeHalf_lo (s : State) (a : Word) (v : BitVec 16) : (s.writeHalf a v).lo = s.lo := by
  simp only [State.writeHalf, State.writeByte_lo]

@[simp] theorem State.writeHalf_fpr (s : State) (a : Word) (v : BitVec 16) : (s.writeHalf a v).fpr = s.fpr := by
  simp only [State.writeHalf, State.writeByte_fpr]

@[simp] theorem State.writeHalf_cc (s : State) (a : Word) (v : BitVec 16) : (s.writeHalf a v).cc = s.cc := by
  simp only [State.writeHalf, State.writeByte_cc]

@[simp] theorem State.writeHalf_status (s : State) (a : Word) (v : BitVec 16) : (s.writeHalf a v).status = s.status := by
  simp only [State.writeHalf, State.writeByte_status]

@[simp] theorem State.writeHalf_cause (s : State) (a : Word) (v : BitVec 16) : (s.writeHalf a v).cause = s.cause := by
  simp only [State.writeHalf, State.writeByte_cause]

@[simp] theorem State.writeHalf_epc (s : State) (a : Word) (v : BitVec 16) : (s.writeHalf a v).epc = s.epc := by
  simp only [State.writeHalf, State.writeByte_epc]

@[simp] theorem State.writeHalf_badVAddr (s : State) (a : Word) (v : BitVec 16) : (s.writeHalf a v).badVAddr = s.badVAddr := by
  simp only [State.writeHalf, State.writeByte_badVAddr]

@[simp] theorem State.writeHalf_llBit (s : State) (a : Word) (v : BitVec 16) : (s.writeHalf a v).llBit = s.llBit := by
  simp only [State.writeHalf, State.writeByte_llBit]

@[simp] theorem State.writeHalf_llAddr (s : State) (a : Word) (v : BitVec 16) : (s.writeHalf a v).llAddr = s.llAddr := by
  simp only [State.writeHalf, State.writeByte_llAddr]

@[simp] theorem State.writeHalf_irq (s : State) (a : Word) (v : BitVec 16) : (s.writeHalf a v).irq = s.irq := by
  simp only [State.writeHalf, State.writeByte_irq]

@[simp] theorem State.writeHalf_params (s : State) (a : Word) (v : BitVec 16) : (s.writeHalf a v).params = s.params := by
  simp only [State.writeHalf, State.writeByte_params]

@[simp] theorem State.writeHalf_draws (s : State) (a : Word) (v : BitVec 16) : (s.writeHalf a v).draws = s.draws := by
  simp only [State.writeHalf, State.writeByte_draws]

/-! ### `writeWord` -/

@[simp] theorem State.writeWord_gpr (s : State) (a v : Word) : (s.writeWord a v).gpr = s.gpr := by
  simp only [State.writeWord, State.writeByte_gpr]

@[simp] theorem State.writeWord_pc (s : State) (a v : Word) : (s.writeWord a v).pc = s.pc := by
  simp only [State.writeWord, State.writeByte_pc]

@[simp] theorem State.writeWord_npc (s : State) (a v : Word) : (s.writeWord a v).npc = s.npc := by
  simp only [State.writeWord, State.writeByte_npc]

@[simp] theorem State.writeWord_bd (s : State) (a v : Word) : (s.writeWord a v).bd = s.bd := by
  simp only [State.writeWord, State.writeByte_bd]

@[simp] theorem State.writeWord_hi (s : State) (a v : Word) : (s.writeWord a v).hi = s.hi := by
  simp only [State.writeWord, State.writeByte_hi]

@[simp] theorem State.writeWord_lo (s : State) (a v : Word) : (s.writeWord a v).lo = s.lo := by
  simp only [State.writeWord, State.writeByte_lo]

@[simp] theorem State.writeWord_fpr (s : State) (a v : Word) : (s.writeWord a v).fpr = s.fpr := by
  simp only [State.writeWord, State.writeByte_fpr]

@[simp] theorem State.writeWord_cc (s : State) (a v : Word) : (s.writeWord a v).cc = s.cc := by
  simp only [State.writeWord, State.writeByte_cc]

@[simp] theorem State.writeWord_status (s : State) (a v : Word) : (s.writeWord a v).status = s.status := by
  simp only [State.writeWord, State.writeByte_status]

@[simp] theorem State.writeWord_cause (s : State) (a v : Word) : (s.writeWord a v).cause = s.cause := by
  simp only [State.writeWord, State.writeByte_cause]

@[simp] theorem State.writeWord_epc (s : State) (a v : Word) : (s.writeWord a v).epc = s.epc := by
  simp only [State.writeWord, State.writeByte_epc]

@[simp] theorem State.writeWord_badVAddr (s : State) (a v : Word) : (s.writeWord a v).badVAddr = s.badVAddr := by
  simp only [State.writeWord, State.writeByte_badVAddr]

@[simp] theorem State.writeWord_llBit (s : State) (a v : Word) : (s.writeWord a v).llBit = s.llBit := by
  simp only [State.writeWord, State.writeByte_llBit]

@[simp] theorem State.writeWord_llAddr (s : State) (a v : Word) : (s.writeWord a v).llAddr = s.llAddr := by
  simp only [State.writeWord, State.writeByte_llAddr]

@[simp] theorem State.writeWord_irq (s : State) (a v : Word) : (s.writeWord a v).irq = s.irq := by
  simp only [State.writeWord, State.writeByte_irq]

@[simp] theorem State.writeWord_params (s : State) (a v : Word) : (s.writeWord a v).params = s.params := by
  simp only [State.writeWord, State.writeByte_params]

@[simp] theorem State.writeWord_draws (s : State) (a v : Word) : (s.writeWord a v).draws = s.draws := by
  simp only [State.writeWord, State.writeByte_draws]

/-! ### `writeCp0` -/

@[simp] theorem State.writeCp0_gpr (s : State) (n : BitVec 5) (v : Word) : (s.writeCp0 n v).gpr = s.gpr := by
  unfold State.writeCp0; split; · rfl
  split <;> rfl

@[simp] theorem State.writeCp0_pc (s : State) (n : BitVec 5) (v : Word) : (s.writeCp0 n v).pc = s.pc := by
  unfold State.writeCp0; split; · rfl
  split <;> rfl

@[simp] theorem State.writeCp0_npc (s : State) (n : BitVec 5) (v : Word) : (s.writeCp0 n v).npc = s.npc := by
  unfold State.writeCp0; split; · rfl
  split <;> rfl

@[simp] theorem State.writeCp0_bd (s : State) (n : BitVec 5) (v : Word) : (s.writeCp0 n v).bd = s.bd := by
  unfold State.writeCp0; split; · rfl
  split <;> rfl

@[simp] theorem State.writeCp0_hi (s : State) (n : BitVec 5) (v : Word) : (s.writeCp0 n v).hi = s.hi := by
  unfold State.writeCp0; split; · rfl
  split <;> rfl

@[simp] theorem State.writeCp0_lo (s : State) (n : BitVec 5) (v : Word) : (s.writeCp0 n v).lo = s.lo := by
  unfold State.writeCp0; split; · rfl
  split <;> rfl

@[simp] theorem State.writeCp0_fpr (s : State) (n : BitVec 5) (v : Word) : (s.writeCp0 n v).fpr = s.fpr := by
  unfold State.writeCp0; split; · rfl
  split <;> rfl

@[simp] theorem State.writeCp0_cc (s : State) (n : BitVec 5) (v : Word) : (s.writeCp0 n v).cc = s.cc := by
  unfold State.writeCp0; split; · rfl
  split <;> rfl

@[simp] theorem State.writeCp0_cause (s : State) (n : BitVec 5) (v : Word) : (s.writeCp0 n v).cause = s.cause := by
  unfold State.writeCp0; split; · rfl
  split <;> rfl

@[simp] theorem State.writeCp0_badVAddr (s : State) (n : BitVec 5) (v : Word) : (s.writeCp0 n v).badVAddr = s.badVAddr := by
  unfold State.writeCp0; split; · rfl
  split <;> rfl

@[simp] theorem State.writeCp0_llBit (s : State) (n : BitVec 5) (v : Word) : (s.writeCp0 n v).llBit = s.llBit := by
  unfold State.writeCp0; split; · rfl
  split <;> rfl

@[simp] theorem State.writeCp0_llAddr (s : State) (n : BitVec 5) (v : Word) : (s.writeCp0 n v).llAddr = s.llAddr := by
  unfold State.writeCp0; split; · rfl
  split <;> rfl

@[simp] theorem State.writeCp0_mem (s : State) (n : BitVec 5) (v : Word) : (s.writeCp0 n v).mem = s.mem := by
  unfold State.writeCp0; split; · rfl
  split <;> rfl

@[simp] theorem State.writeCp0_irq (s : State) (n : BitVec 5) (v : Word) : (s.writeCp0 n v).irq = s.irq := by
  unfold State.writeCp0; split; · rfl
  split <;> rfl

@[simp] theorem State.writeCp0_params (s : State) (n : BitVec 5) (v : Word) : (s.writeCp0 n v).params = s.params := by
  unfold State.writeCp0; split; · rfl
  split <;> rfl

@[simp] theorem State.writeCp0_draws (s : State) (n : BitVec 5) (v : Word) : (s.writeCp0 n v).draws = s.draws := by
  unfold State.writeCp0; split; · rfl
  split <;> rfl

/-! ### `putX` -/

@[simp] theorem State.putX_gpr (s : State) (r : Reg) (v : Word) : (s.putX r v).gpr = (s.writeX r v).gpr := rfl

@[simp] theorem State.putX_pc (s : State) (r : Reg) (v : Word) : (s.putX r v).pc = s.npc := by
  unfold State.putX State.writeX; split <;> rfl

@[simp] theorem State.putX_npc (s : State) (r : Reg) (v : Word) : (s.putX r v).npc = s.npc + 4#32 := by
  unfold State.putX State.writeX; split <;> rfl

@[simp] theorem State.putX_bd (s : State) (r : Reg) (v : Word) : (s.putX r v).bd = false := by
  unfold State.putX State.writeX; split <;> rfl

@[simp] theorem State.putX_hi (s : State) (r : Reg) (v : Word) : (s.putX r v).hi = s.hi := by
  unfold State.putX State.writeX; split <;> rfl

@[simp] theorem State.putX_lo (s : State) (r : Reg) (v : Word) : (s.putX r v).lo = s.lo := by
  unfold State.putX State.writeX; split <;> rfl

@[simp] theorem State.putX_fpr (s : State) (r : Reg) (v : Word) : (s.putX r v).fpr = s.fpr := by
  unfold State.putX State.writeX; split <;> rfl

@[simp] theorem State.putX_cc (s : State) (r : Reg) (v : Word) : (s.putX r v).cc = s.cc := by
  unfold State.putX State.writeX; split <;> rfl

@[simp] theorem State.putX_status (s : State) (r : Reg) (v : Word) : (s.putX r v).status = s.status := by
  unfold State.putX State.writeX; split <;> rfl

@[simp] theorem State.putX_cause (s : State) (r : Reg) (v : Word) : (s.putX r v).cause = s.cause := by
  unfold State.putX State.writeX; split <;> rfl

@[simp] theorem State.putX_epc (s : State) (r : Reg) (v : Word) : (s.putX r v).epc = s.epc := by
  unfold State.putX State.writeX; split <;> rfl

@[simp] theorem State.putX_badVAddr (s : State) (r : Reg) (v : Word) : (s.putX r v).badVAddr = s.badVAddr := by
  unfold State.putX State.writeX; split <;> rfl

@[simp] theorem State.putX_llBit (s : State) (r : Reg) (v : Word) : (s.putX r v).llBit = s.llBit := by
  unfold State.putX State.writeX; split <;> rfl

@[simp] theorem State.putX_llAddr (s : State) (r : Reg) (v : Word) : (s.putX r v).llAddr = s.llAddr := by
  unfold State.putX State.writeX; split <;> rfl

@[simp] theorem State.putX_mem (s : State) (r : Reg) (v : Word) : (s.putX r v).mem = s.mem := by
  unfold State.putX State.writeX; split <;> rfl

@[simp] theorem State.putX_irq (s : State) (r : Reg) (v : Word) : (s.putX r v).irq = s.irq := by
  unfold State.putX State.writeX; split <;> rfl

@[simp] theorem State.putX_params (s : State) (r : Reg) (v : Word) : (s.putX r v).params = s.params := by
  unfold State.putX State.writeX; split <;> rfl

@[simp] theorem State.putX_draws (s : State) (r : Reg) (v : Word) : (s.putX r v).draws = s.draws := by
  unfold State.putX State.writeX; split <;> rfl

/-! ### `putHiLo` -/

@[simp] theorem State.putHiLo_gpr (s : State) (h l : Word) : (s.putHiLo h l).gpr = s.gpr := rfl

@[simp] theorem State.putHiLo_pc (s : State) (h l : Word) : (s.putHiLo h l).pc = s.npc := rfl

@[simp] theorem State.putHiLo_npc (s : State) (h l : Word) : (s.putHiLo h l).npc = s.npc + 4#32 := rfl

@[simp] theorem State.putHiLo_bd (s : State) (h l : Word) : (s.putHiLo h l).bd = false := rfl

@[simp] theorem State.putHiLo_hi (s : State) (h l : Word) : (s.putHiLo h l).hi = h := rfl

@[simp] theorem State.putHiLo_lo (s : State) (h l : Word) : (s.putHiLo h l).lo = l := rfl

@[simp] theorem State.putHiLo_fpr (s : State) (h l : Word) : (s.putHiLo h l).fpr = s.fpr := rfl

@[simp] theorem State.putHiLo_cc (s : State) (h l : Word) : (s.putHiLo h l).cc = s.cc := rfl

@[simp] theorem State.putHiLo_status (s : State) (h l : Word) : (s.putHiLo h l).status = s.status := rfl

@[simp] theorem State.putHiLo_cause (s : State) (h l : Word) : (s.putHiLo h l).cause = s.cause := rfl

@[simp] theorem State.putHiLo_epc (s : State) (h l : Word) : (s.putHiLo h l).epc = s.epc := rfl

@[simp] theorem State.putHiLo_badVAddr (s : State) (h l : Word) : (s.putHiLo h l).badVAddr = s.badVAddr := rfl

@[simp] theorem State.putHiLo_llBit (s : State) (h l : Word) : (s.putHiLo h l).llBit = s.llBit := rfl

@[simp] theorem State.putHiLo_llAddr (s : State) (h l : Word) : (s.putHiLo h l).llAddr = s.llAddr := rfl

@[simp] theorem State.putHiLo_mem (s : State) (h l : Word) : (s.putHiLo h l).mem = s.mem := rfl

@[simp] theorem State.putHiLo_irq (s : State) (h l : Word) : (s.putHiLo h l).irq = s.irq := rfl

@[simp] theorem State.putHiLo_params (s : State) (h l : Word) : (s.putHiLo h l).params = s.params := rfl

@[simp] theorem State.putHiLo_draws (s : State) (h l : Word) : (s.putHiLo h l).draws = s.draws := rfl

/-! ### `scDrawn` -/

@[simp] theorem State.scDrawn_gpr (s : State) : (s.scDrawn).gpr = s.gpr := by
  unfold State.scDrawn; split <;> rfl

@[simp] theorem State.scDrawn_pc (s : State) : (s.scDrawn).pc = s.pc := by
  unfold State.scDrawn; split <;> rfl

@[simp] theorem State.scDrawn_npc (s : State) : (s.scDrawn).npc = s.npc := by
  unfold State.scDrawn; split <;> rfl

@[simp] theorem State.scDrawn_bd (s : State) : (s.scDrawn).bd = s.bd := by
  unfold State.scDrawn; split <;> rfl

@[simp] theorem State.scDrawn_hi (s : State) : (s.scDrawn).hi = s.hi := by
  unfold State.scDrawn; split <;> rfl

@[simp] theorem State.scDrawn_lo (s : State) : (s.scDrawn).lo = s.lo := by
  unfold State.scDrawn; split <;> rfl

@[simp] theorem State.scDrawn_fpr (s : State) : (s.scDrawn).fpr = s.fpr := by
  unfold State.scDrawn; split <;> rfl

@[simp] theorem State.scDrawn_cc (s : State) : (s.scDrawn).cc = s.cc := by
  unfold State.scDrawn; split <;> rfl

@[simp] theorem State.scDrawn_status (s : State) : (s.scDrawn).status = s.status := by
  unfold State.scDrawn; split <;> rfl

@[simp] theorem State.scDrawn_cause (s : State) : (s.scDrawn).cause = s.cause := by
  unfold State.scDrawn; split <;> rfl

@[simp] theorem State.scDrawn_epc (s : State) : (s.scDrawn).epc = s.epc := by
  unfold State.scDrawn; split <;> rfl

@[simp] theorem State.scDrawn_badVAddr (s : State) : (s.scDrawn).badVAddr = s.badVAddr := by
  unfold State.scDrawn; split <;> rfl

@[simp] theorem State.scDrawn_llBit (s : State) : (s.scDrawn).llBit = s.llBit := by
  unfold State.scDrawn; split <;> rfl

@[simp] theorem State.scDrawn_llAddr (s : State) : (s.scDrawn).llAddr = s.llAddr := by
  unfold State.scDrawn; split <;> rfl

@[simp] theorem State.scDrawn_mem (s : State) : (s.scDrawn).mem = s.mem := by
  unfold State.scDrawn; split <;> rfl

@[simp] theorem State.scDrawn_irq (s : State) : (s.scDrawn).irq = s.irq := by
  unfold State.scDrawn; split <;> rfl

@[simp] theorem State.scDrawn_params (s : State) : (s.scDrawn).params = s.params := by
  unfold State.scDrawn; split <;> rfl

end Sys2Proof.Machine
end

