-- ==== Sys2Proof/Laws/Ops.lean ====
section
/-! SUPPORT. What each shared operation does, said once: the accessors after each update, then one lemma per operation that the
meanings are made of, in the terms of Safety.lean. -/

namespace Sys2Proof.Machine

/-! ### The accessors depend on one field each -/

theorem State.readX_congr {s t : State} (h : t.gpr = s.gpr) (r : Reg) : t.readX r = s.readX r := by
  simp only [State.readX, h]

theorem State.readF_congr {s t : State} (h : t.fpr = s.fpr) (n : FReg) : t.readF n = s.readF n := by
  simp only [State.readF, h]

theorem State.readCc_congr {s t : State} (h : t.cc = s.cc) (n : CcNum) : t.readCc n = s.readCc n := by
  simp only [State.readCc, h]

theorem State.readByte_congr {s t : State} (h : t.mem = s.mem) (a : Word) : t.readByte a = s.readByte a := by
  simp only [State.readByte, h]

/-! ### The accessors after an update of another field -/

@[simp] theorem State.advance_readX (s : State) (q : Reg) : (s.advance).readX q = s.readX q :=
  State.readX_congr (by simp) q

@[simp] theorem State.advance_readF (s : State) (q : FReg) : (s.advance).readF q = s.readF q :=
  State.readF_congr (by simp) q

@[simp] theorem State.advance_readCc (s : State) (q : CcNum) : (s.advance).readCc q = s.readCc q :=
  State.readCc_congr (by simp) q

@[simp] theorem State.advance_readByte (s : State) (q : Word) : (s.advance).readByte q = s.readByte q :=
  State.readByte_congr (by simp) q

@[simp] theorem State.transfer_readX (s : State) (c : Bool) (a : Word) (q : Reg) : (s.transfer c a).readX q = s.readX q :=
  State.readX_congr (by simp) q

@[simp] theorem State.transfer_readF (s : State) (c : Bool) (a : Word) (q : FReg) : (s.transfer c a).readF q = s.readF q :=
  State.readF_congr (by simp) q

@[simp] theorem State.transfer_readCc (s : State) (c : Bool) (a : Word) (q : CcNum) : (s.transfer c a).readCc q = s.readCc q :=
  State.readCc_congr (by simp) q

@[simp] theorem State.transfer_readByte (s : State) (c : Bool) (a : Word) (q : Word) : (s.transfer c a).readByte q = s.readByte q :=
  State.readByte_congr (by simp) q

@[simp] theorem State.raise_readX (s : State) (e : Exception) (q : Reg) : (s.raise e).readX q = s.readX q :=
  State.readX_congr (by simp) q

@[simp] theorem State.raise_readF (s : State) (e : Exception) (q : FReg) : (s.raise e).readF q = s.readF q :=
  State.readF_congr (by simp) q

@[simp] theorem State.raise_readCc (s : State) (e : Exception) (q : CcNum) : (s.raise e).readCc q = s.readCc q :=
  State.readCc_congr (by simp) q

@[simp] theorem State.raise_readByte (s : State) (e : Exception) (q : Word) : (s.raise e).readByte q = s.readByte q :=
  State.readByte_congr (by simp) q

@[simp] theorem State.exceptionReturn_readX (s : State) (q : Reg) : (s.exceptionReturn).readX q = s.readX q :=
  State.readX_congr (by simp) q

@[simp] theorem State.exceptionReturn_readF (s : State) (q : FReg) : (s.exceptionReturn).readF q = s.readF q :=
  State.readF_congr (by simp) q

@[simp] theorem State.exceptionReturn_readCc (s : State) (q : CcNum) : (s.exceptionReturn).readCc q = s.readCc q :=
  State.readCc_congr (by simp) q

@[simp] theorem State.exceptionReturn_readByte (s : State) (q : Word) : (s.exceptionReturn).readByte q = s.readByte q :=
  State.readByte_congr (by simp) q

@[simp] theorem State.tick_readX (s : State) (q : Reg) : (s.tick).readX q = s.readX q :=
  State.readX_congr (by simp) q

@[simp] theorem State.tick_readF (s : State) (q : FReg) : (s.tick).readF q = s.readF q :=
  State.readF_congr (by simp) q

@[simp] theorem State.tick_readCc (s : State) (q : CcNum) : (s.tick).readCc q = s.readCc q :=
  State.readCc_congr (by simp) q

@[simp] theorem State.tick_readByte (s : State) (q : Word) : (s.tick).readByte q = s.readByte q :=
  State.readByte_congr (by simp) q

@[simp] theorem State.drawn_readX (s : State) (q : Reg) : (s.drawn).readX q = s.readX q :=
  State.readX_congr (by simp) q

@[simp] theorem State.drawn_readF (s : State) (q : FReg) : (s.drawn).readF q = s.readF q :=
  State.readF_congr (by simp) q

@[simp] theorem State.drawn_readCc (s : State) (q : CcNum) : (s.drawn).readCc q = s.readCc q :=
  State.readCc_congr (by simp) q

@[simp] theorem State.drawn_readByte (s : State) (q : Word) : (s.drawn).readByte q = s.readByte q :=
  State.readByte_congr (by simp) q

@[simp] theorem State.setLink_readX (s : State) (a : Word) (q : Reg) : (s.setLink a).readX q = s.readX q :=
  State.readX_congr (by simp) q

@[simp] theorem State.setLink_readF (s : State) (a : Word) (q : FReg) : (s.setLink a).readF q = s.readF q :=
  State.readF_congr (by simp) q

@[simp] theorem State.setLink_readCc (s : State) (a : Word) (q : CcNum) : (s.setLink a).readCc q = s.readCc q :=
  State.readCc_congr (by simp) q

@[simp] theorem State.setLink_readByte (s : State) (a : Word) (q : Word) : (s.setLink a).readByte q = s.readByte q :=
  State.readByte_congr (by simp) q

@[simp] theorem State.clearLink_readX (s : State) (q : Reg) : (s.clearLink).readX q = s.readX q :=
  State.readX_congr (by simp) q

@[simp] theorem State.clearLink_readF (s : State) (q : FReg) : (s.clearLink).readF q = s.readF q :=
  State.readF_congr (by simp) q

@[simp] theorem State.clearLink_readCc (s : State) (q : CcNum) : (s.clearLink).readCc q = s.readCc q :=
  State.readCc_congr (by simp) q

@[simp] theorem State.clearLink_readByte (s : State) (q : Word) : (s.clearLink).readByte q = s.readByte q :=
  State.readByte_congr (by simp) q

@[simp] theorem State.writeX_readF (s : State) (r : Reg) (v : Word) (q : FReg) : (s.writeX r v).readF q = s.readF q :=
  State.readF_congr (by simp) q

@[simp] theorem State.writeX_readCc (s : State) (r : Reg) (v : Word) (q : CcNum) : (s.writeX r v).readCc q = s.readCc q :=
  State.readCc_congr (by simp) q

@[simp] theorem State.writeX_readByte (s : State) (r : Reg) (v : Word) (q : Word) : (s.writeX r v).readByte q = s.readByte q :=
  State.readByte_congr (by simp) q

@[simp] theorem State.writeF_readX (s : State) (n : FReg) (v : Word) (q : Reg) : (s.writeF n v).readX q = s.readX q :=
  State.readX_congr (by simp) q

@[simp] theorem State.writeF_readCc (s : State) (n : FReg) (v : Word) (q : CcNum) : (s.writeF n v).readCc q = s.readCc q :=
  State.readCc_congr (by simp) q

@[simp] theorem State.writeF_readByte (s : State) (n : FReg) (v : Word) (q : Word) : (s.writeF n v).readByte q = s.readByte q :=
  State.readByte_congr (by simp) q

@[simp] theorem State.writeD_readX (s : State) (n : FReg) (v : DWord) (q : Reg) : (s.writeD n v).readX q = s.readX q :=
  State.readX_congr (by simp) q

@[simp] theorem State.writeD_readCc (s : State) (n : FReg) (v : DWord) (q : CcNum) : (s.writeD n v).readCc q = s.readCc q :=
  State.readCc_congr (by simp) q

@[simp] theorem State.writeD_readByte (s : State) (n : FReg) (v : DWord) (q : Word) : (s.writeD n v).readByte q = s.readByte q :=
  State.readByte_congr (by simp) q

@[simp] theorem State.writeCc_readX (s : State) (n : CcNum) (b : Bool) (q : Reg) : (s.writeCc n b).readX q = s.readX q :=
  State.readX_congr (by simp) q

@[simp] theorem State.writeCc_readF (s : State) (n : CcNum) (b : Bool) (q : FReg) : (s.writeCc n b).readF q = s.readF q :=
  State.readF_congr (by simp) q

@[simp] theorem State.writeCc_readByte (s : State) (n : CcNum) (b : Bool) (q : Word) : (s.writeCc n b).readByte q = s.readByte q :=
  State.readByte_congr (by simp) q

@[simp] theorem State.writeByte_readX (s : State) (a : Word) (v : Byte) (q : Reg) : (s.writeByte a v).readX q = s.readX q :=
  State.readX_congr (by simp) q

@[simp] theorem State.writeByte_readF (s : State) (a : Word) (v : Byte) (q : FReg) : (s.writeByte a v).readF q = s.readF q :=
  State.readF_congr (by simp) q

@[simp] theorem State.writeByte_readCc (s : State) (a : Word) (v : Byte) (q : CcNum) : (s.writeByte a v).readCc q = s.readCc q :=
  State.readCc_congr (by simp) q

@[simp] theorem State.writeHalf_readX (s : State) (a : Word) (v : BitVec 16) (q : Reg) : (s.writeHalf a v).readX q = s.readX q :=
  State.readX_congr (by simp) q

@[simp] theorem State.writeHalf_readF (s : State) (a : Word) (v : BitVec 16) (q : FReg) : (s.writeHalf a v).readF q = s.readF q :=
  State.readF_congr (by simp) q

@[simp] theorem State.writeHalf_readCc (s : State) (a : Word) (v : BitVec 16) (q : CcNum) : (s.writeHalf a v).readCc q = s.readCc q :=
  State.readCc_congr (by simp) q

@[simp] theorem State.writeWord_readX (s : State) (a v : Word) (q : Reg) : (s.writeWord a v).readX q = s.readX q :=
  State.readX_congr (by simp) q

@[simp] theorem State.writeWord_readF (s : State) (a v : Word) (q : FReg) : (s.writeWord a v).readF q = s.readF q :=
  State.readF_congr (by simp) q

@[simp] theorem State.writeWord_readCc (s : State) (a v : Word) (q : CcNum) : (s.writeWord a v).readCc q = s.readCc q :=
  State.readCc_congr (by simp) q

@[simp] theorem State.writeCp0_readX (s : State) (n : BitVec 5) (v : Word) (q : Reg) : (s.writeCp0 n v).readX q = s.readX q :=
  State.readX_congr (by simp) q

@[simp] theorem State.writeCp0_readF (s : State) (n : BitVec 5) (v : Word) (q : FReg) : (s.writeCp0 n v).readF q = s.readF q :=
  State.readF_congr (by simp) q

@[simp] theorem State.writeCp0_readCc (s : State) (n : BitVec 5) (v : Word) (q : CcNum) : (s.writeCp0 n v).readCc q = s.readCc q :=
  State.readCc_congr (by simp) q

@[simp] theorem State.writeCp0_readByte (s : State) (n : BitVec 5) (v : Word) (q : Word) : (s.writeCp0 n v).readByte q = s.readByte q :=
  State.readByte_congr (by simp) q

@[simp] theorem State.putX_readF (s : State) (r : Reg) (v : Word) (q : FReg) : (s.putX r v).readF q = s.readF q :=
  State.readF_congr (by simp) q

@[simp] theorem State.putX_readCc (s : State) (r : Reg) (v : Word) (q : CcNum) : (s.putX r v).readCc q = s.readCc q :=
  State.readCc_congr (by simp) q

@[simp] theorem State.putX_readByte (s : State) (r : Reg) (v : Word) (q : Word) : (s.putX r v).readByte q = s.readByte q :=
  State.readByte_congr (by simp) q

@[simp] theorem State.putHiLo_readX (s : State) (h l : Word) (q : Reg) : (s.putHiLo h l).readX q = s.readX q :=
  State.readX_congr (by simp) q

@[simp] theorem State.putHiLo_readF (s : State) (h l : Word) (q : FReg) : (s.putHiLo h l).readF q = s.readF q :=
  State.readF_congr (by simp) q

@[simp] theorem State.putHiLo_readCc (s : State) (h l : Word) (q : CcNum) : (s.putHiLo h l).readCc q = s.readCc q :=
  State.readCc_congr (by simp) q

@[simp] theorem State.putHiLo_readByte (s : State) (h l : Word) (q : Word) : (s.putHiLo h l).readByte q = s.readByte q :=
  State.readByte_congr (by simp) q

@[simp] theorem State.scDrawn_readX (s : State) (q : Reg) : (s.scDrawn).readX q = s.readX q :=
  State.readX_congr (by simp) q

@[simp] theorem State.scDrawn_readF (s : State) (q : FReg) : (s.scDrawn).readF q = s.readF q :=
  State.readF_congr (by simp) q

@[simp] theorem State.scDrawn_readCc (s : State) (q : CcNum) : (s.scDrawn).readCc q = s.readCc q :=
  State.readCc_congr (by simp) q

@[simp] theorem State.scDrawn_readByte (s : State) (q : Word) : (s.scDrawn).readByte q = s.readByte q :=
  State.readByte_congr (by simp) q

/-! ### The accessors after a write of their own field -/

@[simp] theorem State.readX_zero (s : State) : s.readX 0#5 = 0#32 := by simp [State.readX]

/-- The two coprocessor-0 registers a write reaches (R212). -/
@[simp] theorem State.writeCp0_status (s : State) (n : BitVec 5) (v : Word) :
    (s.writeCp0 n v).status = if n = 12#5 then Status.ofWord v else s.status := by
  unfold State.writeCp0; split
  · rfl
  · split <;> rfl

@[simp] theorem State.writeCp0_epc (s : State) (n : BitVec 5) (v : Word) :
    (s.writeCp0 n v).epc = if n = 14#5 then v else s.epc := by
  unfold State.writeCp0; split
  · rename_i h; subst h; rfl
  · split <;> rfl

/-- Register 0 keeps reading 0; another register reads what was written (R20, R21). -/
@[simp] theorem State.readX_writeX (s : State) (r : Reg) (v : Word) (q : Reg) :
    (s.writeX r v).readX q = if q = r ∧ q ≠ 0#5 then v else s.readX q := by
  unfold State.writeX
  by_cases hr : r = 0#5
  · subst hr
    by_cases hq : q = 0#5 <;> simp [hq]
  · by_cases hq : q = 0#5
    · subst hq; simp [State.readX]
    · by_cases e : q = r
      · subst e; simp [hr, State.readX]
      · have hn : r.toNat ≠ q.toNat := fun h => e (BitVec.eq_of_toNat_eq h.symm)
        simp [hr, hq, e, State.readX, hn]

@[simp] theorem State.readX_putX (s : State) (r : Reg) (v : Word) (q : Reg) :
    (s.putX r v).readX q = if q = r ∧ q ≠ 0#5 then v else s.readX q := by
  simp [State.putX]

@[simp] theorem State.readF_writeF (s : State) (n : FReg) (v : Word) (q : FReg) :
    (s.writeF n v).readF q = if q = n then v else s.readF q := by
  by_cases e : q = n
  · subst e; simp [State.readF]
  · have hn : n.toNat ≠ q.toNat := fun h => e (BitVec.eq_of_toNat_eq h.symm)
    simp [e, State.readF, hn]

@[simp] theorem State.readCc_writeCc (s : State) (n : CcNum) (b : Bool) (q : CcNum) :
    (s.writeCc n b).readCc q = if q = n then b else s.readCc q := by
  by_cases e : q = n
  · subst e; simp [State.readCc]
  · have hn : n.toNat ≠ q.toNat := fun h => e (BitVec.eq_of_toNat_eq h.symm)
    simp [e, State.readCc, hn]

theorem succ_ne_self (n : FReg) : n + 1#5 ≠ n := by revert n; decide

/-- A pair read as a double is the value of its two registers in the order of the run (R257). -/
theorem State.readD_eq_pairValue (s : State) (n : FReg) : s.readD n = pairValue s n := by
  unfold State.readD pairValue highReg lowReg
  cases s.params.pairOrder <;> simp

/-- The registers of a pair after a double is written to it, and every other register (R257). -/
theorem State.readF_writeD (s : State) (n : FReg) (v : DWord) (q : FReg) :
    (s.writeD n v).readF q =
      if q = highReg s n then v.extractLsb' 32 32 else if q = lowReg s n then v.extractLsb' 0 32 else s.readF q := by
  have hs := succ_ne_self n
  unfold State.writeD highReg lowReg
  cases s.params.pairOrder
  · by_cases h : q = n
    · subst h; simp [hs.symm]
    · simp [h]
  · by_cases h : q = n
    · subst h; simp [hs.symm]
    · simp [h]

/-! ### The words of Safety.lean for what the machine computes -/

theorem signExtImm_eq (imm : BitVec 16) : signExtImm imm = BitVec.ofInt 32 imm.toInt := rfl

theorem zeroExtImm_eq (imm : BitVec 16) : zeroExtImm imm = 0#16 ++ imm := by
  unfold zeroExtImm zext32; ext i hi; simp; grind

theorem State.effectiveAddr_eq (s : State) (rs : Reg) (imm : BitVec 16) : s.effectiveAddr rs imm = dataAddr s rs imm := rfl

theorem branchAddr_eq (imm : BitVec 16) : branchAddr imm = BitVec.ofInt 32 (imm.toInt * 4) := by
  unfold branchAddr sext32 BitVec.signExtend
  congr 1
  have h : (imm ++ 0#2 : BitVec 18) = BitVec.ofInt 18 (imm.toInt * 4) := by
    have := imm.isLt
    have e : (imm ++ 0#2 : BitVec 18).toNat = imm.toNat * 4 := by rw [BitVec.toNat_append]; simp [Nat.shiftLeft_eq]
    apply BitVec.eq_of_toNat_eq
    rw [e]
    simp only [BitVec.toInt_eq_toNat_cond, BitVec.toNat_ofInt]
    split <;> omega
  rw [h, BitVec.toInt_ofInt]
  have h1 := BitVec.le_toInt imm
  have h2 := BitVec.toInt_lt (x := imm)
  simp only [Int.bmod_def]; norm_num at *; split <;> omega

theorem State.branchTarget_eq (s : State) (imm : BitVec 16) : s.branchTarget imm = branchGoal s imm := by
  unfold State.branchTarget branchGoal; rw [branchAddr_eq]

theorem State.userMode_iff (s : State) : s.userMode = true ↔ InUserMode s := by simp [State.userMode]

theorem State.segmentBarred_iff (s : State) (a : Word) : s.segmentBarred a = true ↔ Barred s a := by
  have : a.getLsbD 31 = decide (2 ^ 31 ≤ a.toNat) := by
    rw [← BitVec.msb_eq_decide (x := a), BitVec.msb_eq_getLsbD_last]
  unfold State.segmentBarred Barred
  rw [this, Bool.and_eq_true, Bool.and_eq_true, s.userMode_iff, decide_eq_true_iff, and_assoc]

theorem State.backed_iff (s : State) (a : Word) (n : Nat) : s.backed a n = true ↔ Backed s a n := by
  simp [State.backed, Backed]

/-! ### Frames -/

/-- A frame from the parts, each kept or exempt. -/
theorem keepsAllBut_of {l : List Part} {s t : State} (h : ∀ p : Part, p ∉ l → p.same s t) : KeepsAllBut l s t := h

/-- `putX` writes one register and goes on (R110). -/
theorem State.putX_writesX (s : State) (r : Reg) (v : Word) : WritesX r v s (s.putX r v) := by
  refine ⟨fun p hp => ?_, fun q => by simp, by simp [GoesOn]⟩
  cases p <;> simp_all [Part.same]

theorem State.advance_writesNothing (s : State) : WritesNothing s s.advance := by
  refine ⟨fun p hp => ?_, by simp [GoesOn]⟩
  cases p <;> simp_all [Part.same]

/-- `putHiLo` writes `HI` and `LO` and goes on (R240). -/
theorem State.putHiLo_writesHiLo (s : State) (h l : Word) : WritesHiLo h l s (s.putHiLo h l) := by
  refine ⟨fun p hp => ?_, by simp, by simp, by simp [GoesOn]⟩
  cases p <;> simp_all [Part.same]

/-- Everything an exception entry does (R330, R337). -/
theorem State.raise_entered (s : State) (e : Exception) : Entered e.code e.badAddr s (s.raise e) := by
  refine ⟨fun p hp => ?_, rfl, rfl, fun h => ?_, fun h => ?_, rfl, rfl, rfl, rfl, rfl, rfl⟩
  · cases p <;> simp_all [Part.same]
  · simp [h]
  · simp [h]

/-- A branch or jump that links nothing (R27, R162). -/
theorem State.transfer_goes (s : State) (c : Bool) (a : Word) : Goes (c = true) a s (s.transfer c a) := by
  refine ⟨fun p hp => ?_, rfl, fun h => by simp [h], fun h => by simp [h], rfl⟩
  cases p <;> simp_all [Part.same]

/-- A branch or jump that links (R192). -/
theorem State.transfer_goesLinking (s : State) (r : Reg) (c : Bool) (a : Word) :
    GoesLinking r (c = true) a s ((s.writeX r s.linkAddr).transfer c a) := by
  refine ⟨fun p hp => ?_, fun q => by simp [State.linkAddr], by simp, fun h => by simp [h], fun h => by simp [h], rfl⟩
  cases p <;> simp_all [Part.same]

/-- Writing one floating-point register and going on. -/
theorem State.writeF_writesF (s : State) (n : FReg) (v : Word) : WritesF n v s (s.writeF n v).advance := by
  refine ⟨fun p hp => ?_, fun q => by simp, by simp [GoesOn]⟩
  cases p <;> simp_all [Part.same]

/-- Writing a double and going on (R257). -/
theorem State.writeD_writesD (s : State) (n : FReg) (v : DWord) : WritesD n v s (s.writeD n v).advance := by
  refine ⟨fun p hp => ?_, fun q => by simp [State.readF_writeD], by simp [GoesOn]⟩
  cases p <;> simp_all [Part.same]

/-- Writing one condition flag and going on. -/
theorem State.writeCc_writesCc (s : State) (n : CcNum) (b : Bool) : WritesCc n b s (s.writeCc n b).advance := by
  refine ⟨fun p hp => ?_, fun q => by simp, by simp [GoesOn]⟩
  cases p <;> simp_all [Part.same]

/-- A result of `FP_NUMERICS` is delivered (R258). -/
theorem State.putF_delivers (s : State) (n : FReg) (r : FpResult Word) : DeliversF n r s (s.putF n r) := by
  cases r with
  | value v => exact s.writeF_writesF n v
  | fpe => exact s.raise_entered .floatingPointException

theorem State.putD_delivers (s : State) (n : FReg) (r : FpResult DWord) : DeliversD n r s (s.putD n r) := by
  cases r with
  | value v => exact s.writeD_writesD n v
  | fpe => exact s.raise_entered .floatingPointException

theorem State.putCc_delivers (s : State) (n : CcNum) (r : FpResult Bool) : DeliversCc n r s (s.putCc n r) := by
  cases r with
  | value b => exact s.writeCc_writesCc n b
  | fpe => exact s.raise_entered .floatingPointException

/-! ### Stores -/

theorem sub_toNat_zero (q a : Word) : (q - a).toNat = 0 ↔ q = a := by bv_omega

theorem sub_toNat_eq (q a : Word) (k : Nat) (hk : k < 2 ^ 32) : (q - a).toNat = k ↔ q = a + BitVec.ofNat 32 k := by
  constructor
  · intro h
    have e : q = a + (q - a) := by bv_omega
    have e' : q - a = BitVec.ofNat 32 k := by rw [← h, BitVec.ofNat_toNat, BitVec.setWidth_eq]
    rw [e'] at e; exact e
  · rintro rfl
    have : a + BitVec.ofNat 32 k - a = BitVec.ofNat 32 k := by bv_omega
    rw [this]; simp; omega

/-- A byte store (R53). -/
theorem State.writeByte_stores (s : State) (a : Word) (v : Byte) : Stores a [v] s (s.writeByte a v).advance := by
  refine ⟨fun p hp => ?_, fun q => ?_, by simp [GoesOn]⟩
  · cases p <;> simp_all [Part.same]
  · have h0 := sub_toNat_zero q a
    by_cases h : q = a <;> simp_all [storedByte]

/-- A halfword store: the more significant byte at the lower address (R53). -/
theorem State.writeHalf_stores (s : State) (a : Word) (v : BitVec 16) :
    Stores a [halfByte v 0, halfByte v 1] s (s.writeHalf a v).advance := by
  refine ⟨fun p hp => ?_, fun q => ?_, by simp [GoesOn]⟩
  · cases p <;> simp_all [Part.same]
  · have h0 := sub_toNat_zero q a
    have h1 := sub_toNat_eq q a 1 (by decide)
    simp only [storedByte, State.advance_readByte, State.readByte_writeHalf, ← h0, ← h1, List.length_cons, List.length_nil]
    generalize (q - a).toNat = k
    rcases k with _ | _ | k <;> simp

/-- The bytes of a word in memory after a word store (R53). -/
theorem State.readByte_writeWord_stored (s : State) (a v q : Word) :
    (s.writeWord a v).readByte q = storedByte a (bytesOfWord v) s q := by
  have h0 := sub_toNat_zero q a
  have h1 := sub_toNat_eq q a 1 (by decide)
  have h2 := sub_toNat_eq q a 2 (by decide)
  have h3 := sub_toNat_eq q a 3 (by decide)
  simp only [storedByte, State.readByte_writeWord, ← h0, ← h1, ← h2, ← h3, bytesOfWord, List.length_cons, List.length_nil]
  generalize (q - a).toNat = k
  rcases k with _ | _ | _ | _ | k <;> simp [wordByte]

/-- A word store (R53). -/
theorem State.writeWord_stores (s : State) (a v : Word) : Stores a (bytesOfWord v) s (s.writeWord a v).advance := by
  refine ⟨fun p hp => ?_, fun q => by simp only [State.advance_readByte, State.readByte_writeWord_stored], by simp [GoesOn]⟩
  cases p <;> simp_all [Part.same]

/-- Two word stores at `a` and `a + 4` (R274). -/
theorem State.writeWord_writeWord_stores (s : State) (a v w : Word) :
    Stores a (bytesOfWord v ++ bytesOfWord w) s ((s.writeWord a v).writeWord (a + 4#32) w).advance := by
  refine ⟨fun p hp => ?_, fun q => ?_, by simp [GoesOn]⟩
  · cases p <;> simp_all [Part.same]
  · have h : ∀ k, k < 2 ^ 32 → (q = a + BitVec.ofNat 32 k ↔ (q - a).toNat = k) := fun k hk => (sub_toNat_eq q a k hk).symm
    have h0 := (sub_toNat_zero q a).symm
    have a5 : a + 4#32 + 1#32 = a + 5#32 := by bv_omega
    have a6 : a + 4#32 + 2#32 = a + 6#32 := by bv_omega
    have a7 : a + 4#32 + 3#32 = a + 7#32 := by bv_omega
    simp only [storedByte, State.advance_readByte, State.readByte_writeWord, a5, a6, a7, h0, h 1 (by decide), h 2 (by decide),
      h 3 (by decide), h 4 (by decide), h 5 (by decide), h 6 (by decide), h 7 (by decide), bytesOfWord, List.length_cons,
      List.length_nil, List.length_append]
    generalize (q - a).toNat = k
    rcases k with _ | _ | _ | _ | _ | _ | _ | _ | k <;> simp [wordByte]

/-! ### The checks of an access, and the shared shapes of meanings -/

/-- An access that passes, or raises, in the order of R225. -/
theorem State.accessFault_accesses (s : State) (k : Access) (n : Nat) (a : Word) (t : State) (done : State → Prop)
    (h : done t) : Accesses (k.addressError a).code n a s (s.orRaise (s.accessFault k n a) t)
      (done (s.orRaise (s.accessFault k n a) t)) := by
  have hb : (k.addressError a).badAddr = some a := by cases k <;> rfl
  unfold Accesses State.accessFault State.addressFault
  by_cases h1 : a.toNat % n ≠ 0
  · rw [if_pos h1, if_pos h1, ← hb]; exact s.raise_entered _
  · rw [if_neg h1, if_neg h1]
    by_cases h2 : Barred s a
    · rw [if_pos h2, if_pos ((s.segmentBarred_iff a).2 h2), ← hb]; exact s.raise_entered _
    · rw [if_neg h2, if_neg (fun e => h2 ((s.segmentBarred_iff a).1 e))]
      by_cases h3 : Backed s a n
      · rw [if_neg (not_not.2 h3), (s.backed_iff a n).2 h3]; exact h
      · have h4 : s.backed a n = false := by
          by_contra e; exact h3 ((s.backed_iff a n).1 (by simpa using e))
        rw [if_pos h3, h4]; exact s.raise_entered .busErrorData

/-- A branch outside a delay slot (R162). -/
theorem State.branch_goes {s : State} (h : s.bd = false) (c : Bool) (imm : BitVec 16) :
    ∃ t, s.branch c imm = .next t ∧ Goes (c = true) (branchGoal s imm) s t :=
  ⟨s.transfer c (branchGoal s imm), by simp [State.branch, h, s.branchTarget_eq], s.transfer_goes c _⟩

/-- A conditional trap (R200). -/
theorem State.trapIf_traps (s : State) (c : Bool) : ∃ t, s.trapIf c = .next t ∧ TrapsIf (c = true) s t := by
  refine ⟨_, rfl, fun h => ?_, fun h => ?_⟩
  · simp only [h, if_true]; exact s.raise_entered .trap
  · simp only [h]; exact s.advance_writesNothing

/-- A floating-point instruction whose double operands are even, with the unit present (R256, R257). -/
theorem State.fp_next {s : State} {ds : List FReg} (h : s.params.hasFpu = true) (hd : ∀ n ∈ ds, IsEven n) (k : State) :
    s.fp ds k = .next k := by
  have : ds.all evenReg = true := by simpa [evenReg] using hd
  simp [State.fp, h, this]

end Sys2Proof.Machine
end

