-- ==== Sys2Proof/Laws/Exec.lean ====
section
/-! SUPPORT. Everything the execution of an instruction can do, said once: the next states `exec` can answer with, and which
instructions answer with which. -/

namespace Sys2Proof

/-- The word of the instruction is of the floating-point family (R256), read off its opcode. -/
def Instr.float (i : Instr) : Bool :=
  let op := (encodeFields i).op
  op == 0x11#6 || op == 0x31#6 || op == 0x35#6 || op == 0x39#6 || op == 0x3d#6

theorem coprocessor1Word_encode (i : Instr) : coprocessor1Word (encode i) = i.float := by
  have h : (encode i).extractLsb' 26 6 = (encodeFields i).op := congrArg Fields.op (Fields.ofWord_toWord (encodeFields i))
  simp only [coprocessor1Word, Instr.float, h]

end Sys2Proof

namespace Sys2Proof.Machine

/-- Code 0 is the interrupt's alone (R321); the checks of an instruction raise other codes. -/
theorem Exception.code_ite {c : Prop} [Decidable c] {e : Exception} (h : e.code ≠ 0#5) :
    ∀ x ∈ (if c then some e else none), x.code ≠ 0#5 := by
  intro x hx
  split at hx <;> cases hx
  exact h

theorem Access.addressError_code (k : Access) (a : Word) : (k.addressError a).code ≠ 0#5 := by
  cases k <;> simp [Access.addressError, Exception.code]

theorem State.addressFault_code {s : State} {k : Access} {n : Nat} {a : Word} :
    ∀ x ∈ s.addressFault k n a, x.code ≠ 0#5 := by
  intro x hx
  unfold State.addressFault at hx
  split at hx
  · cases hx; exact k.addressError_code a
  · exact Exception.code_ite (k.addressError_code a) x hx

theorem State.accessFault_code {s : State} {k : Access} {n : Nat} {a : Word} :
    ∀ x ∈ s.accessFault k n a, x.code ≠ 0#5 := by
  intro x hx
  unfold State.accessFault at hx
  split at hx
  next e he => cases hx; exact State.addressFault_code _ he
  next => split at hx <;> cases hx; decide

/-- The next states that executing an instruction can answer with. No instruction raises the interrupt's code. -/
inductive Effect (i : Instr) (s : State) : State → Prop
  | raise (e : Exception) (he : e.code ≠ 0#5) : Effect i s (s.raise e)
  | scRaise {rt : Reg} {imm : BitVec 16} {rs : Reg} (hi : i = .sc rt imm rs) (e : Exception) (he : e.code ≠ 0#5) :
      Effect i s (s.scDrawn.raise e)
  | advance : Effect i s s.advance
  | putX (r : Reg) (v : Word) (hf : i.float = false) : Effect i s (s.putX r v)
  | drawX (r : Reg) (v : Word) {rt : Reg} {rd : BitVec 5} (hi : i = .mfc0 rt rd) : Effect i s (s.drawn.putX r v)
  | transfer (c : Bool) (a : Word) (hi : i.transfersControl = true) (hb : s.bd = false) : Effect i s (s.transfer c a)
  | link (r : Reg) (c : Bool) (a : Word) (hi : i.transfersControl = true) (hf : i.float = false) (hb : s.bd = false) :
      Effect i s ((s.writeX r s.linkAddr).transfer c a)
  | putHiLo (h l : Word) (hi : i.writesHiLo = true) : Effect i s (s.putHiLo h l)
  | divideByZero (hi : i.writesHiLo = true) : Effect i s s.divideByZero
  | storeByte (a : Word) (v : Byte) (hi : i.stores = true) : Effect i s (s.writeByte a v).advance
  | storeHalf (a : Word) (v : BitVec 16) (hi : i.stores = true) : Effect i s (s.writeHalf a v).advance
  | storeWord (a v : Word) (hi : i.stores = true) : Effect i s (s.writeWord a v).advance
  | storeTwoWords (a v w : Word) (hi : i.stores = true) : Effect i s ((s.writeWord a v).writeWord (a + 4#32) w).advance
  | ll (a v : Word) {rt : Reg} {imm : BitVec 16} {rs : Reg} (hi : i = .ll rt imm rs) : Effect i s ((s.setLink a).putX rt v)
  | scStores (a v : Word) {rt : Reg} {imm : BitVec 16} {rs : Reg} (hi : i = .sc rt imm rs) :
      Effect i s ((s.scDrawn.writeWord a v).clearLink.putX rt 1#32)
  | scFails {rt : Reg} {imm : BitVec 16} {rs : Reg} (hi : i = .sc rt imm rs) : Effect i s (s.scDrawn.clearLink.putX rt 0#32)
  | putF (n : FReg) (v : Word) (hf : i.float = true) : Effect i s (s.writeF n v).advance
  | putD (n : FReg) (v : DWord) (hf : i.float = true) : Effect i s (s.writeD n v).advance
  | putCc (n : CcNum) (b : Bool) (hi : i.compares = true) (hf : i.float = true) : Effect i s (s.writeCc n b).advance
  | cp0 (n : BitVec 5) (v : Word) {rt : Reg} (hi : i = .mtc0 rt n) (hu : s.userMode = false) :
      Effect i s (s.writeCp0 n v).advance
  | eret (hi : i = .eret) (hu : s.userMode = false) : Effect i s s.exceptionReturn

/-- An instruction's outcome is one of these next states, or a refusal; never a fault. -/
def Does (i : Instr) (s : State) : Result → Prop
  | .next t => Effect i s t
  | .fault _ => False
  | .refused _ => True

theorem Effect.orRaise {i : Instr} {s k : State} (h : Effect i s k) {e : Option Exception} (he : ∀ x ∈ e, x.code ≠ 0#5) :
    Effect i s (s.orRaise e k) := by
  cases e with
  | none => exact h
  | some e => exact .raise e (he e rfl)

theorem Effect.ite {i : Instr} {s t u : State} {c : Prop} [Decidable c] (ht : Effect i s t) (hu : Effect i s u) :
    Effect i s (if c then t else u) := by
  by_cases h : c
  · rw [if_pos h]; exact ht
  · rw [if_neg h]; exact hu

theorem Effect.fp {i : Instr} {s k : State} (h : Effect i s k) (ds : List FReg) : Does i s (s.fp ds k) := by
  unfold State.fp
  split
  · split
    · exact h
    · trivial
  · exact .raise _ (by decide)

theorem Effect.putFResult {i : Instr} {s : State} (n : FReg) (r : FpResult Word) (hf : i.float = true) :
    Effect i s (s.putF n r) := by
  cases r with
  | value v => exact .putF n v hf
  | fpe => exact .raise _ (by decide)

theorem Effect.putDResult {i : Instr} {s : State} (n : FReg) (r : FpResult DWord) (hf : i.float = true) :
    Effect i s (s.putD n r) := by
  cases r with
  | value v => exact .putD n v hf
  | fpe => exact .raise _ (by decide)

theorem Effect.putCcResult {i : Instr} {s : State} (n : CcNum) (r : FpResult Bool) (hi : i.compares = true)
    (hf : i.float = true) : Effect i s (s.putCc n r) := by
  cases r with
  | value b => exact .putCc n b hi hf
  | fpe => exact .raise _ (by decide)

theorem Does.transfer {i : Instr} {s : State} (hi : i.transfersControl = true) (c : Bool) (a : Word) :
    Does i s (if s.bd then .refused .transferInDelaySlot else .next (s.transfer c a)) := by
  by_cases h : s.bd = true
  · rw [if_pos h]; trivial
  · rw [if_neg h]; exact Effect.transfer c a hi (by simpa using h)

theorem Does.link {i : Instr} {s : State} (hi : i.transfersControl = true) (hf : i.float = false) (r : Reg) (c : Bool) (a : Word) :
    Does i s (if s.bd then .refused .transferInDelaySlot else .next ((s.writeX r s.linkAddr).transfer c a)) := by
  by_cases h : s.bd = true
  · rw [if_pos h]; trivial
  · rw [if_neg h]; exact Effect.link r c a hi hf (by simpa using h)

theorem Does.linkUnless {i : Instr} {s : State} (hi : i.transfersControl = true) (hf : i.float = false) (p : Prop) [Decidable p]
    (r : Reg) (c : Bool) (a : Word) :
    Does i s (if s.bd then .refused .transferInDelaySlot else if p then .refused .linkClash
      else .next ((s.writeX r s.linkAddr).transfer c a)) := by
  by_cases hp : p
  · simp only [hp, if_true]; split <;> trivial
  · simp only [hp, if_false]; exact Does.link hi hf r c a

theorem Does.branchFp {i : Instr} {s : State} (hi : i.transfersControl = true) (c : Bool) (imm : BitVec 16) :
    Does i s (s.branchFp c imm) := by
  unfold State.branchFp
  split
  · exact Does.transfer hi c _
  · exact .raise _ (by decide)

theorem Does.orRefused {i : Instr} {s t : State} {c : Prop} [Decidable c] {r : Refusal} (h : ¬c → Effect i s t) :
    Does i s (if c then .refused r else .next t) := by
  by_cases e : c
  · rw [if_pos e]; trivial
  · rw [if_neg e]; exact h e

theorem Does.orElseRefused {i : Instr} {s t : State} {c : Prop} [Decidable c] {r : Refusal} (h : Effect i s t) :
    Does i s (if c then .next t else .refused r) := by
  by_cases e : c
  · rw [if_pos e]; exact h
  · rw [if_neg e]; trivial

theorem Effect.unlessUser {i : Instr} {s t : State} {e : Exception} (he : e.code ≠ 0#5)
    (h : s.userMode = false → Effect i s t) : Effect i s (if s.userMode then s.raise e else t) := by
  by_cases hu : s.userMode = true
  · rw [if_pos hu]; exact .raise e he
  · rw [if_neg hu]; exact h (by simpa using hu)

/-- What executing any instruction can do. -/
theorem exec_does (i : Instr) (s : State) : Does i s (exec i s) := by
  cases i with
  | add => exact (Effect.putX _ _ rfl).orRaise (Exception.code_ite (by decide))
  | addi => exact (Effect.putX _ _ rfl).orRaise (Exception.code_ite (by decide))
  | addiu => exact Effect.putX _ _ rfl
  | addu => exact Effect.putX _ _ rfl
  | and => exact Effect.putX _ _ rfl
  | andi => exact Effect.putX _ _ rfl
  | nor => exact Effect.putX _ _ rfl
  | or => exact Effect.putX _ _ rfl
  | ori => exact Effect.putX _ _ rfl
  | sll => exact Effect.putX _ _ rfl
  | srl => exact Effect.putX _ _ rfl
  | sra => exact Effect.putX _ _ rfl
  | sub => exact (Effect.putX _ _ rfl).orRaise (Exception.code_ite (by decide))
  | subu => exact Effect.putX _ _ rfl
  | xor => exact Effect.putX _ _ rfl
  | xori => exact Effect.putX _ _ rfl
  | sllv => exact Effect.putX _ _ rfl
  | srlv => exact Effect.putX _ _ rfl
  | srav => exact Effect.putX _ _ rfl
  | movz => exact Effect.ite (.putX _ _ rfl) .advance
  | movn => exact Effect.ite (.putX _ _ rfl) .advance
  | lui => exact Effect.putX _ _ rfl
  | slt => exact Effect.putX _ _ rfl
  | sltu => exact Effect.putX _ _ rfl
  | slti => exact Effect.putX _ _ rfl
  | sltiu => exact Effect.putX _ _ rfl
  | bc1f => exact Does.branchFp rfl _ _
  | bc1t => exact Does.branchFp rfl _ _
  | beq => exact Does.transfer rfl _ _
  | bgez => exact Does.transfer rfl _ _
  | bgezal => exact Does.linkUnless rfl rfl _ _ _ _
  | bgtz => exact Does.transfer rfl _ _
  | blez => exact Does.transfer rfl _ _
  | bltzal => exact Does.linkUnless rfl rfl _ _ _ _
  | bltz => exact Does.transfer rfl _ _
  | bne => exact Does.transfer rfl _ _
  | j => exact Does.transfer rfl _ _
  | jal => exact Does.link rfl rfl _ _ _
  | jr => exact Does.transfer rfl _ _
  | jalr => exact Does.linkUnless rfl rfl _ _ _ _
  | teq => exact Effect.advance.orRaise (Exception.code_ite (by decide))
  | teqi => exact Effect.advance.orRaise (Exception.code_ite (by decide))
  | tne => exact Effect.advance.orRaise (Exception.code_ite (by decide))
  | tnei => exact Effect.advance.orRaise (Exception.code_ite (by decide))
  | tge => exact Effect.advance.orRaise (Exception.code_ite (by decide))
  | tgeu => exact Effect.advance.orRaise (Exception.code_ite (by decide))
  | tlt => exact Effect.advance.orRaise (Exception.code_ite (by decide))
  | tltu => exact Effect.advance.orRaise (Exception.code_ite (by decide))
  | syscall => exact Does.orRefused fun _ => .raise _ (by decide)
  | brk => exact Effect.raise _ (by decide)
  | mfc0 => exact Effect.unlessUser (by decide) fun _ => .ite (.putX _ _ rfl) (.drawX _ _ rfl)
  | mtc0 => exact Effect.unlessUser (by decide) fun h => .cp0 _ _ rfl h
  | eret => exact Does.orRefused fun _ => .unlessUser (by decide) fun h => .eret rfl h
  | lb => exact (Effect.putX _ _ rfl).orRaise State.accessFault_code
  | lbu => exact (Effect.putX _ _ rfl).orRaise State.accessFault_code
  | lh => exact (Effect.putX _ _ rfl).orRaise State.accessFault_code
  | lhu => exact (Effect.putX _ _ rfl).orRaise State.accessFault_code
  | lw => exact (Effect.putX _ _ rfl).orRaise State.accessFault_code
  | sb => exact (Effect.storeByte _ _ rfl).orRaise State.accessFault_code
  | sh => exact (Effect.storeHalf _ _ rfl).orRaise State.accessFault_code
  | sw => exact (Effect.storeWord _ _ rfl).orRaise State.accessFault_code
  | ll => exact (Effect.ll _ _ rfl).orRaise State.accessFault_code
  | sc => exact (Effect.ite (.ite (.scStores _ _ rfl) (.scRaise rfl _ (by decide))) (.scFails rfl)).orRaise State.addressFault_code
  | mult => exact Effect.putHiLo _ _ rfl
  | multu => exact Effect.putHiLo _ _ rfl
  | div => exact Effect.ite (.divideByZero rfl) (.putHiLo _ _ rfl)
  | divu => exact Effect.ite (.divideByZero rfl) (.putHiLo _ _ rfl)
  | mfhi => exact Effect.putX _ _ rfl
  | mflo => exact Effect.putX _ _ rfl
  | mthi => exact Effect.putHiLo _ _ rfl
  | mtlo => exact Effect.putHiLo _ _ rfl
  | lwc1 => exact Effect.fp ((Effect.putFResult _ _ rfl).orRaise State.accessFault_code) _
  | ldc1 => exact Effect.fp ((Effect.putDResult _ _ rfl).orRaise State.accessFault_code) _
  | swc1 => exact Effect.fp ((Effect.storeWord _ _ rfl).orRaise State.accessFault_code) _
  | sdc1 => exact Effect.fp ((Effect.storeTwoWords _ _ _ rfl).orRaise State.accessFault_code) _
  | addS => exact Effect.fp (.putFResult _ _ rfl) _
  | subS => exact Effect.fp (.putFResult _ _ rfl) _
  | mulS => exact Effect.fp (.putFResult _ _ rfl) _
  | divS => exact Effect.fp (.putFResult _ _ rfl) _
  | sqrtS => exact Effect.fp (.putFResult _ _ rfl) _
  | absS => exact Effect.fp (.putFResult _ _ rfl) _
  | movS => exact Effect.fp (.putFResult _ _ rfl) _
  | negS => exact Effect.fp (.putFResult _ _ rfl) _
  | roundWS => exact Effect.fp (.putFResult _ _ rfl) _
  | truncWS => exact Effect.fp (.putFResult _ _ rfl) _
  | ceilWS => exact Effect.fp (.putFResult _ _ rfl) _
  | floorWS => exact Effect.fp (.putFResult _ _ rfl) _
  | movzS => exact Effect.fp (Effect.ite (.putFResult _ _ rfl) .advance) _
  | movnS => exact Effect.fp (Effect.ite (.putFResult _ _ rfl) .advance) _
  | cvtDS => exact Effect.fp (.putDResult _ _ rfl) _
  | cvtWS => exact Effect.fp (.putFResult _ _ rfl) _
  | addD => exact Effect.fp (.putDResult _ _ rfl) _
  | subD => exact Effect.fp (.putDResult _ _ rfl) _
  | mulD => exact Effect.fp (.putDResult _ _ rfl) _
  | divD => exact Effect.fp (.putDResult _ _ rfl) _
  | sqrtD => exact Effect.fp (.putDResult _ _ rfl) _
  | absD => exact Effect.fp (.putDResult _ _ rfl) _
  | movD => exact Effect.fp (.putDResult _ _ rfl) _
  | negD => exact Effect.fp (.putDResult _ _ rfl) _
  | roundWD => exact Effect.fp (.putFResult _ _ rfl) _
  | truncWD => exact Effect.fp (.putFResult _ _ rfl) _
  | ceilWD => exact Effect.fp (.putFResult _ _ rfl) _
  | floorWD => exact Effect.fp (.putFResult _ _ rfl) _
  | movzD => exact Effect.fp (Effect.ite (.putDResult _ _ rfl) .advance) _
  | movnD => exact Effect.fp (Effect.ite (.putDResult _ _ rfl) .advance) _
  | cvtSD => exact Effect.fp (.putFResult _ _ rfl) _
  | cvtWD => exact Effect.fp (.putFResult _ _ rfl) _
  | cFS => exact Effect.fp (.putCcResult _ _ rfl rfl) _
  | cUnS => exact Effect.fp (.putCcResult _ _ rfl rfl) _
  | cEqS => exact Effect.fp (.putCcResult _ _ rfl rfl) _
  | cUeqS => exact Effect.fp (.putCcResult _ _ rfl rfl) _
  | cOltS => exact Effect.fp (.putCcResult _ _ rfl rfl) _
  | cUltS => exact Effect.fp (.putCcResult _ _ rfl rfl) _
  | cOleS => exact Effect.fp (.putCcResult _ _ rfl rfl) _
  | cUleS => exact Effect.fp (.putCcResult _ _ rfl rfl) _
  | cSfS => exact Effect.fp (.putCcResult _ _ rfl rfl) _
  | cNgleS => exact Effect.fp (.putCcResult _ _ rfl rfl) _
  | cSeqS => exact Effect.fp (.putCcResult _ _ rfl rfl) _
  | cNglS => exact Effect.fp (.putCcResult _ _ rfl rfl) _
  | cLtS => exact Effect.fp (.putCcResult _ _ rfl rfl) _
  | cNgeS => exact Effect.fp (.putCcResult _ _ rfl rfl) _
  | cLeS => exact Effect.fp (.putCcResult _ _ rfl rfl) _
  | cNgtS => exact Effect.fp (.putCcResult _ _ rfl rfl) _
  | cFD => exact Effect.fp (.putCcResult _ _ rfl rfl) _
  | cUnD => exact Effect.fp (.putCcResult _ _ rfl rfl) _
  | cEqD => exact Effect.fp (.putCcResult _ _ rfl rfl) _
  | cUeqD => exact Effect.fp (.putCcResult _ _ rfl rfl) _
  | cOltD => exact Effect.fp (.putCcResult _ _ rfl rfl) _
  | cUltD => exact Effect.fp (.putCcResult _ _ rfl rfl) _
  | cOleD => exact Effect.fp (.putCcResult _ _ rfl rfl) _
  | cUleD => exact Effect.fp (.putCcResult _ _ rfl rfl) _
  | cSfD => exact Effect.fp (.putCcResult _ _ rfl rfl) _
  | cNgleD => exact Effect.fp (.putCcResult _ _ rfl rfl) _
  | cSeqD => exact Effect.fp (.putCcResult _ _ rfl rfl) _
  | cNglD => exact Effect.fp (.putCcResult _ _ rfl rfl) _
  | cLtD => exact Effect.fp (.putCcResult _ _ rfl rfl) _
  | cNgeD => exact Effect.fp (.putCcResult _ _ rfl rfl) _
  | cLeD => exact Effect.fp (.putCcResult _ _ rfl rfl) _
  | cNgtD => exact Effect.fp (.putCcResult _ _ rfl rfl) _
  | lwl => exact trivial
  | lwr => exact trivial
  | swl => exact trivial
  | swr => exact trivial
  | cache => exact trivial
  | pref => exact Does.orElseRefused .advance
  | lwc2 => exact trivial
  | ldc2 => exact trivial
  | swc2 => exact trivial
  | sdc2 => exact trivial
  | sync => exact Effect.advance

theorem exec_effect {i : Instr} {s t : State} (h : exec i s = .next t) : Effect i s t := by
  have := exec_does i s
  rwa [h] at this

theorem exec_ne_fault (i : Instr) (s : State) (f : Fault) : exec i s ≠ .fault f := nomatch f

end Sys2Proof.Machine
end

