-- ==== Sys2Proof/Laws/PerInstr.lean ====
section
/-! SUPPORT. One family of lemmas, one for each constructor: the encoding of an instruction selects the row of the opcode table
that has its mnemonic (spec/30_encoding.md R105). -/

namespace Sys2Proof.Laws.OpcodeRow

/-- The instruction's word selects the row of its mnemonic. -/
def Statement (i : Instr) : Prop := ∃ row ∈ opcodeTable, row.mnemonic = i.mnemonic ∧ encode i &&& row.mask = row.pattern

/-- A row whose mask `g` and pattern `q`, field by field, the fields of the instruction fit. -/
theorem of_row {i : Instr} (k : Nat) (mn : String) (g q : Fields) (hk : opcodeTable[k]? = some ⟨mn, g.toWord, q.toWord⟩)
    (hm : mn = i.mnemonic) (hop : (encodeFields i).op &&& g.op = q.op) (hrs : (encodeFields i).rs &&& g.rs = q.rs)
    (hrt : (encodeFields i).rt &&& g.rt = q.rt) (hrd : (encodeFields i).rd &&& g.rd = q.rd)
    (hsh : (encodeFields i).shamt &&& g.shamt = q.shamt) (hf : (encodeFields i).funct &&& g.funct = q.funct) : Statement i :=
  ⟨_, List.mem_of_getElem? hk, hm, by rw [encode, Fields.toWord_and, hop, hrs, hrt, hrd, hsh, hf]⟩

/-- A field the row does not look at. -/
theorem free {n : Nat} {x : BitVec n} : x &&& 0#n = 0#n := BitVec.and_zero

/-- A field the row fixes. -/
theorem all6 {x : BitVec 6} : x &&& 63#6 = x := BitVec.and_allOnes

theorem all5 {x : BitVec 5} : x &&& 31#5 = x := BitVec.and_allOnes

/-- The two fixed bits of a compare's and of a flag branch's field. -/
theorem cc_low (cc : CcNum) : (cc ++ 0#2 : BitVec 5) &&& 3#5 = 0#5 := by revert cc; decide

theorem cc_false (cc : CcNum) : (cc ++ 0#1 ++ 0#1 : BitVec 5) &&& 3#5 = 0#5 := by revert cc; decide

theorem cc_true (cc : CcNum) : (cc ++ 0#1 ++ 1#1 : BitVec 5) &&& 3#5 = 1#5 := by revert cc; decide

theorem add (rd rs rt : Reg) : Statement (.add rd rs rt) :=
  of_row 21 "add" ⟨63#6, 0#5, 0#5, 0#5, 31#5, 63#6⟩ ⟨0#6, 0#5, 0#5, 0#5, 0#5, 32#6⟩
    rfl rfl all6 free free free all5 all6

theorem addi (rt rs : Reg) (imm : BitVec 16) : Statement (.addi rt rs imm) :=
  of_row 49 "addi" ⟨63#6, 0#5, 0#5, 0#5, 0#5, 0#6⟩ ⟨8#6, 0#5, 0#5, 0#5, 0#5, 0#6⟩
    rfl rfl all6 free free free free free

theorem addiu (rt rs : Reg) (imm : BitVec 16) : Statement (.addiu rt rs imm) :=
  of_row 50 "addiu" ⟨63#6, 0#5, 0#5, 0#5, 0#5, 0#6⟩ ⟨9#6, 0#5, 0#5, 0#5, 0#5, 0#6⟩
    rfl rfl all6 free free free free free

theorem addu (rd rs rt : Reg) : Statement (.addu rd rs rt) :=
  of_row 22 "addu" ⟨63#6, 0#5, 0#5, 0#5, 31#5, 63#6⟩ ⟨0#6, 0#5, 0#5, 0#5, 0#5, 33#6⟩
    rfl rfl all6 free free free all5 all6

theorem and (rd rs rt : Reg) : Statement (.and rd rs rt) :=
  of_row 25 "and" ⟨63#6, 0#5, 0#5, 0#5, 31#5, 63#6⟩ ⟨0#6, 0#5, 0#5, 0#5, 0#5, 36#6⟩
    rfl rfl all6 free free free all5 all6

theorem andi (rt rs : Reg) (imm : BitVec 16) : Statement (.andi rt rs imm) :=
  of_row 53 "andi" ⟨63#6, 0#5, 0#5, 0#5, 0#5, 0#6⟩ ⟨12#6, 0#5, 0#5, 0#5, 0#5, 0#6⟩
    rfl rfl all6 free free free free free

theorem nor (rd rs rt : Reg) : Statement (.nor rd rs rt) :=
  of_row 28 "nor" ⟨63#6, 0#5, 0#5, 0#5, 31#5, 63#6⟩ ⟨0#6, 0#5, 0#5, 0#5, 0#5, 39#6⟩
    rfl rfl all6 free free free all5 all6

theorem or (rd rs rt : Reg) : Statement (.or rd rs rt) :=
  of_row 26 "or" ⟨63#6, 0#5, 0#5, 0#5, 31#5, 63#6⟩ ⟨0#6, 0#5, 0#5, 0#5, 0#5, 37#6⟩
    rfl rfl all6 free free free all5 all6

theorem ori (rt rs : Reg) (imm : BitVec 16) : Statement (.ori rt rs imm) :=
  of_row 54 "ori" ⟨63#6, 0#5, 0#5, 0#5, 0#5, 0#6⟩ ⟨13#6, 0#5, 0#5, 0#5, 0#5, 0#6⟩
    rfl rfl all6 free free free free free

theorem sll (rd rt : Reg) (shamt : BitVec 5) : Statement (.sll rd rt shamt) :=
  of_row 0 "sll" ⟨63#6, 31#5, 0#5, 0#5, 0#5, 63#6⟩ ⟨0#6, 0#5, 0#5, 0#5, 0#5, 0#6⟩
    rfl rfl all6 all5 free free free all6

theorem srl (rd rt : Reg) (shamt : BitVec 5) : Statement (.srl rd rt shamt) :=
  of_row 1 "srl" ⟨63#6, 31#5, 0#5, 0#5, 0#5, 63#6⟩ ⟨0#6, 0#5, 0#5, 0#5, 0#5, 2#6⟩
    rfl rfl all6 all5 free free free all6

theorem sra (rd rt : Reg) (shamt : BitVec 5) : Statement (.sra rd rt shamt) :=
  of_row 2 "sra" ⟨63#6, 31#5, 0#5, 0#5, 0#5, 63#6⟩ ⟨0#6, 0#5, 0#5, 0#5, 0#5, 3#6⟩
    rfl rfl all6 all5 free free free all6

theorem sub (rd rs rt : Reg) : Statement (.sub rd rs rt) :=
  of_row 23 "sub" ⟨63#6, 0#5, 0#5, 0#5, 31#5, 63#6⟩ ⟨0#6, 0#5, 0#5, 0#5, 0#5, 34#6⟩
    rfl rfl all6 free free free all5 all6

theorem subu (rd rs rt : Reg) : Statement (.subu rd rs rt) :=
  of_row 24 "subu" ⟨63#6, 0#5, 0#5, 0#5, 31#5, 63#6⟩ ⟨0#6, 0#5, 0#5, 0#5, 0#5, 35#6⟩
    rfl rfl all6 free free free all5 all6

theorem xor (rd rs rt : Reg) : Statement (.xor rd rs rt) :=
  of_row 27 "xor" ⟨63#6, 0#5, 0#5, 0#5, 31#5, 63#6⟩ ⟨0#6, 0#5, 0#5, 0#5, 0#5, 38#6⟩
    rfl rfl all6 free free free all5 all6

theorem xori (rt rs : Reg) (imm : BitVec 16) : Statement (.xori rt rs imm) :=
  of_row 55 "xori" ⟨63#6, 0#5, 0#5, 0#5, 0#5, 0#6⟩ ⟨14#6, 0#5, 0#5, 0#5, 0#5, 0#6⟩
    rfl rfl all6 free free free free free

theorem sllv (rd rt rs : Reg) : Statement (.sllv rd rt rs) :=
  of_row 3 "sllv" ⟨63#6, 0#5, 0#5, 0#5, 31#5, 63#6⟩ ⟨0#6, 0#5, 0#5, 0#5, 0#5, 4#6⟩
    rfl rfl all6 free free free all5 all6

theorem srlv (rd rt rs : Reg) : Statement (.srlv rd rt rs) :=
  of_row 4 "srlv" ⟨63#6, 0#5, 0#5, 0#5, 31#5, 63#6⟩ ⟨0#6, 0#5, 0#5, 0#5, 0#5, 6#6⟩
    rfl rfl all6 free free free all5 all6

theorem srav (rd rt rs : Reg) : Statement (.srav rd rt rs) :=
  of_row 5 "srav" ⟨63#6, 0#5, 0#5, 0#5, 31#5, 63#6⟩ ⟨0#6, 0#5, 0#5, 0#5, 0#5, 7#6⟩
    rfl rfl all6 free free free all5 all6

theorem movz (rd rs rt : Reg) : Statement (.movz rd rs rt) :=
  of_row 8 "movz" ⟨63#6, 0#5, 0#5, 0#5, 31#5, 63#6⟩ ⟨0#6, 0#5, 0#5, 0#5, 0#5, 10#6⟩
    rfl rfl all6 free free free all5 all6

theorem movn (rd rs rt : Reg) : Statement (.movn rd rs rt) :=
  of_row 9 "movn" ⟨63#6, 0#5, 0#5, 0#5, 31#5, 63#6⟩ ⟨0#6, 0#5, 0#5, 0#5, 0#5, 11#6⟩
    rfl rfl all6 free free free all5 all6

theorem lui (rt : Reg) (imm : BitVec 16) : Statement (.lui rt imm) :=
  of_row 56 "lui" ⟨63#6, 31#5, 0#5, 0#5, 0#5, 0#6⟩ ⟨15#6, 0#5, 0#5, 0#5, 0#5, 0#6⟩
    rfl rfl all6 all5 free free free free

theorem slt (rd rs rt : Reg) : Statement (.slt rd rs rt) :=
  of_row 29 "slt" ⟨63#6, 0#5, 0#5, 0#5, 31#5, 63#6⟩ ⟨0#6, 0#5, 0#5, 0#5, 0#5, 42#6⟩
    rfl rfl all6 free free free all5 all6

theorem sltu (rd rs rt : Reg) : Statement (.sltu rd rs rt) :=
  of_row 30 "sltu" ⟨63#6, 0#5, 0#5, 0#5, 31#5, 63#6⟩ ⟨0#6, 0#5, 0#5, 0#5, 0#5, 43#6⟩
    rfl rfl all6 free free free all5 all6

theorem slti (rt rs : Reg) (imm : BitVec 16) : Statement (.slti rt rs imm) :=
  of_row 51 "slti" ⟨63#6, 0#5, 0#5, 0#5, 0#5, 0#6⟩ ⟨10#6, 0#5, 0#5, 0#5, 0#5, 0#6⟩
    rfl rfl all6 free free free free free

theorem sltiu (rt rs : Reg) (imm : BitVec 16) : Statement (.sltiu rt rs imm) :=
  of_row 52 "sltiu" ⟨63#6, 0#5, 0#5, 0#5, 0#5, 0#6⟩ ⟨11#6, 0#5, 0#5, 0#5, 0#5, 0#6⟩
    rfl rfl all6 free free free free free

theorem bc1f (cc : CcNum) (imm : BitVec 16) : Statement (.bc1f cc imm) :=
  of_row 84 "bc1f" ⟨63#6, 31#5, 3#5, 0#5, 0#5, 0#6⟩ ⟨17#6, 8#5, 0#5, 0#5, 0#5, 0#6⟩
    rfl rfl all6 all5 (cc_false cc) free free free

theorem bc1t (cc : CcNum) (imm : BitVec 16) : Statement (.bc1t cc imm) :=
  of_row 85 "bc1t" ⟨63#6, 31#5, 3#5, 0#5, 0#5, 0#6⟩ ⟨17#6, 8#5, 1#5, 0#5, 0#5, 0#6⟩
    rfl rfl all6 all5 (cc_true cc) free free free

theorem beq (rs rt : Reg) (imm : BitVec 16) : Statement (.beq rs rt imm) :=
  of_row 45 "beq" ⟨63#6, 0#5, 0#5, 0#5, 0#5, 0#6⟩ ⟨4#6, 0#5, 0#5, 0#5, 0#5, 0#6⟩
    rfl rfl all6 free free free free free

theorem bgez (rs : Reg) (imm : BitVec 16) : Statement (.bgez rs imm) :=
  of_row 38 "bgez" ⟨63#6, 0#5, 31#5, 0#5, 0#5, 0#6⟩ ⟨1#6, 0#5, 1#5, 0#5, 0#5, 0#6⟩
    rfl rfl all6 free all5 free free free

theorem bgezal (rs : Reg) (imm : BitVec 16) : Statement (.bgezal rs imm) :=
  of_row 42 "bgezal" ⟨63#6, 0#5, 31#5, 0#5, 0#5, 0#6⟩ ⟨1#6, 0#5, 17#5, 0#5, 0#5, 0#6⟩
    rfl rfl all6 free all5 free free free

theorem bgtz (rs : Reg) (imm : BitVec 16) : Statement (.bgtz rs imm) :=
  of_row 48 "bgtz" ⟨63#6, 0#5, 31#5, 0#5, 0#5, 0#6⟩ ⟨7#6, 0#5, 0#5, 0#5, 0#5, 0#6⟩
    rfl rfl all6 free all5 free free free

theorem blez (rs : Reg) (imm : BitVec 16) : Statement (.blez rs imm) :=
  of_row 47 "blez" ⟨63#6, 0#5, 31#5, 0#5, 0#5, 0#6⟩ ⟨6#6, 0#5, 0#5, 0#5, 0#5, 0#6⟩
    rfl rfl all6 free all5 free free free

theorem bltzal (rs : Reg) (imm : BitVec 16) : Statement (.bltzal rs imm) :=
  of_row 41 "bltzal" ⟨63#6, 0#5, 31#5, 0#5, 0#5, 0#6⟩ ⟨1#6, 0#5, 16#5, 0#5, 0#5, 0#6⟩
    rfl rfl all6 free all5 free free free

theorem bltz (rs : Reg) (imm : BitVec 16) : Statement (.bltz rs imm) :=
  of_row 37 "bltz" ⟨63#6, 0#5, 31#5, 0#5, 0#5, 0#6⟩ ⟨1#6, 0#5, 0#5, 0#5, 0#5, 0#6⟩
    rfl rfl all6 free all5 free free free

theorem bne (rs rt : Reg) (imm : BitVec 16) : Statement (.bne rs rt imm) :=
  of_row 46 "bne" ⟨63#6, 0#5, 0#5, 0#5, 0#5, 0#6⟩ ⟨5#6, 0#5, 0#5, 0#5, 0#5, 0#6⟩
    rfl rfl all6 free free free free free

theorem j (address : BitVec 26) : Statement (.j address) :=
  of_row 43 "j" ⟨63#6, 0#5, 0#5, 0#5, 0#5, 0#6⟩ ⟨2#6, 0#5, 0#5, 0#5, 0#5, 0#6⟩
    rfl rfl all6 free free free free free

theorem jal (address : BitVec 26) : Statement (.jal address) :=
  of_row 44 "jal" ⟨63#6, 0#5, 0#5, 0#5, 0#5, 0#6⟩ ⟨3#6, 0#5, 0#5, 0#5, 0#5, 0#6⟩
    rfl rfl all6 free free free free free

theorem jr (rs : Reg) : Statement (.jr rs) :=
  of_row 6 "jr" ⟨63#6, 0#5, 31#5, 31#5, 31#5, 63#6⟩ ⟨0#6, 0#5, 0#5, 0#5, 0#5, 8#6⟩
    rfl rfl all6 free all5 all5 all5 all6

theorem jalr (rd rs : Reg) : Statement (.jalr rd rs) :=
  of_row 7 "jalr" ⟨63#6, 0#5, 31#5, 0#5, 31#5, 63#6⟩ ⟨0#6, 0#5, 0#5, 0#5, 0#5, 9#6⟩
    rfl rfl all6 free all5 free all5 all6

theorem teq (rs rt : Reg) (code : BitVec 10) : Statement (.teq rs rt code) :=
  of_row 35 "teq" ⟨63#6, 0#5, 0#5, 0#5, 0#5, 63#6⟩ ⟨0#6, 0#5, 0#5, 0#5, 0#5, 52#6⟩
    rfl rfl all6 free free free free all6

theorem teqi (rs : Reg) (imm : BitVec 16) : Statement (.teqi rs imm) :=
  of_row 39 "teqi" ⟨63#6, 0#5, 31#5, 0#5, 0#5, 0#6⟩ ⟨1#6, 0#5, 12#5, 0#5, 0#5, 0#6⟩
    rfl rfl all6 free all5 free free free

theorem tne (rs rt : Reg) (code : BitVec 10) : Statement (.tne rs rt code) :=
  of_row 36 "tne" ⟨63#6, 0#5, 0#5, 0#5, 0#5, 63#6⟩ ⟨0#6, 0#5, 0#5, 0#5, 0#5, 54#6⟩
    rfl rfl all6 free free free free all6

theorem tnei (rs : Reg) (imm : BitVec 16) : Statement (.tnei rs imm) :=
  of_row 40 "tnei" ⟨63#6, 0#5, 31#5, 0#5, 0#5, 0#6⟩ ⟨1#6, 0#5, 14#5, 0#5, 0#5, 0#6⟩
    rfl rfl all6 free all5 free free free

theorem tge (rs rt : Reg) (code : BitVec 10) : Statement (.tge rs rt code) :=
  of_row 31 "tge" ⟨63#6, 0#5, 0#5, 0#5, 0#5, 63#6⟩ ⟨0#6, 0#5, 0#5, 0#5, 0#5, 48#6⟩
    rfl rfl all6 free free free free all6

theorem tgeu (rs rt : Reg) (code : BitVec 10) : Statement (.tgeu rs rt code) :=
  of_row 32 "tgeu" ⟨63#6, 0#5, 0#5, 0#5, 0#5, 63#6⟩ ⟨0#6, 0#5, 0#5, 0#5, 0#5, 49#6⟩
    rfl rfl all6 free free free free all6

theorem tlt (rs rt : Reg) (code : BitVec 10) : Statement (.tlt rs rt code) :=
  of_row 33 "tlt" ⟨63#6, 0#5, 0#5, 0#5, 0#5, 63#6⟩ ⟨0#6, 0#5, 0#5, 0#5, 0#5, 50#6⟩
    rfl rfl all6 free free free free all6

theorem tltu (rs rt : Reg) (code : BitVec 10) : Statement (.tltu rs rt code) :=
  of_row 34 "tltu" ⟨63#6, 0#5, 0#5, 0#5, 0#5, 63#6⟩ ⟨0#6, 0#5, 0#5, 0#5, 0#5, 51#6⟩
    rfl rfl all6 free free free free all6

theorem syscall (code : BitVec 20) : Statement (.syscall code) :=
  of_row 10 "syscall" ⟨63#6, 0#5, 0#5, 0#5, 0#5, 63#6⟩ ⟨0#6, 0#5, 0#5, 0#5, 0#5, 12#6⟩
    rfl rfl all6 free free free free all6

theorem brk (code : BitVec 20) : Statement (.brk code) :=
  of_row 11 "break" ⟨63#6, 0#5, 0#5, 0#5, 0#5, 63#6⟩ ⟨0#6, 0#5, 0#5, 0#5, 0#5, 13#6⟩
    rfl rfl all6 free free free free all6

theorem mfc0 (rt : Reg) (rd : BitVec 5) : Statement (.mfc0 rt rd) :=
  of_row 81 "mfc0" ⟨63#6, 31#5, 0#5, 0#5, 31#5, 63#6⟩ ⟨16#6, 0#5, 0#5, 0#5, 0#5, 0#6⟩
    rfl rfl all6 all5 free free all5 all6

theorem mtc0 (rt : Reg) (rd : BitVec 5) : Statement (.mtc0 rt rd) :=
  of_row 82 "mtc0" ⟨63#6, 31#5, 0#5, 0#5, 31#5, 63#6⟩ ⟨16#6, 4#5, 0#5, 0#5, 0#5, 0#6⟩
    rfl rfl all6 all5 free free all5 all6

theorem eret : Statement .eret :=
  of_row 83 "eret" ⟨63#6, 31#5, 31#5, 31#5, 31#5, 63#6⟩ ⟨16#6, 16#5, 0#5, 0#5, 0#5, 24#6⟩
    rfl rfl all6 all5 all5 all5 all5 all6

theorem lb (rt : Reg) (imm : BitVec 16) (rs : Reg) : Statement (.lb rt imm rs) :=
  of_row 57 "lb" ⟨63#6, 0#5, 0#5, 0#5, 0#5, 0#6⟩ ⟨32#6, 0#5, 0#5, 0#5, 0#5, 0#6⟩
    rfl rfl all6 free free free free free

theorem lbu (rt : Reg) (imm : BitVec 16) (rs : Reg) : Statement (.lbu rt imm rs) :=
  of_row 60 "lbu" ⟨63#6, 0#5, 0#5, 0#5, 0#5, 0#6⟩ ⟨36#6, 0#5, 0#5, 0#5, 0#5, 0#6⟩
    rfl rfl all6 free free free free free

theorem lh (rt : Reg) (imm : BitVec 16) (rs : Reg) : Statement (.lh rt imm rs) :=
  of_row 58 "lh" ⟨63#6, 0#5, 0#5, 0#5, 0#5, 0#6⟩ ⟨33#6, 0#5, 0#5, 0#5, 0#5, 0#6⟩
    rfl rfl all6 free free free free free

theorem lhu (rt : Reg) (imm : BitVec 16) (rs : Reg) : Statement (.lhu rt imm rs) :=
  of_row 61 "lhu" ⟨63#6, 0#5, 0#5, 0#5, 0#5, 0#6⟩ ⟨37#6, 0#5, 0#5, 0#5, 0#5, 0#6⟩
    rfl rfl all6 free free free free free

theorem lw (rt : Reg) (imm : BitVec 16) (rs : Reg) : Statement (.lw rt imm rs) :=
  of_row 59 "lw" ⟨63#6, 0#5, 0#5, 0#5, 0#5, 0#6⟩ ⟨35#6, 0#5, 0#5, 0#5, 0#5, 0#6⟩
    rfl rfl all6 free free free free free

theorem sb (rt : Reg) (imm : BitVec 16) (rs : Reg) : Statement (.sb rt imm rs) :=
  of_row 62 "sb" ⟨63#6, 0#5, 0#5, 0#5, 0#5, 0#6⟩ ⟨40#6, 0#5, 0#5, 0#5, 0#5, 0#6⟩
    rfl rfl all6 free free free free free

theorem sh (rt : Reg) (imm : BitVec 16) (rs : Reg) : Statement (.sh rt imm rs) :=
  of_row 63 "sh" ⟨63#6, 0#5, 0#5, 0#5, 0#5, 0#6⟩ ⟨41#6, 0#5, 0#5, 0#5, 0#5, 0#6⟩
    rfl rfl all6 free free free free free

theorem sw (rt : Reg) (imm : BitVec 16) (rs : Reg) : Statement (.sw rt imm rs) :=
  of_row 64 "sw" ⟨63#6, 0#5, 0#5, 0#5, 0#5, 0#6⟩ ⟨43#6, 0#5, 0#5, 0#5, 0#5, 0#6⟩
    rfl rfl all6 free free free free free

theorem ll (rt : Reg) (imm : BitVec 16) (rs : Reg) : Statement (.ll rt imm rs) :=
  of_row 65 "ll" ⟨63#6, 0#5, 0#5, 0#5, 0#5, 0#6⟩ ⟨48#6, 0#5, 0#5, 0#5, 0#5, 0#6⟩
    rfl rfl all6 free free free free free

theorem sc (rt : Reg) (imm : BitVec 16) (rs : Reg) : Statement (.sc rt imm rs) :=
  of_row 66 "sc" ⟨63#6, 0#5, 0#5, 0#5, 0#5, 0#6⟩ ⟨56#6, 0#5, 0#5, 0#5, 0#5, 0#6⟩
    rfl rfl all6 free free free free free

theorem mult (rs rt : Reg) : Statement (.mult rs rt) :=
  of_row 17 "mult" ⟨63#6, 0#5, 0#5, 31#5, 31#5, 63#6⟩ ⟨0#6, 0#5, 0#5, 0#5, 0#5, 24#6⟩
    rfl rfl all6 free free all5 all5 all6

theorem multu (rs rt : Reg) : Statement (.multu rs rt) :=
  of_row 18 "multu" ⟨63#6, 0#5, 0#5, 31#5, 31#5, 63#6⟩ ⟨0#6, 0#5, 0#5, 0#5, 0#5, 25#6⟩
    rfl rfl all6 free free all5 all5 all6

theorem div (rs rt : Reg) : Statement (.div rs rt) :=
  of_row 19 "div" ⟨63#6, 0#5, 0#5, 31#5, 31#5, 63#6⟩ ⟨0#6, 0#5, 0#5, 0#5, 0#5, 26#6⟩
    rfl rfl all6 free free all5 all5 all6

theorem divu (rs rt : Reg) : Statement (.divu rs rt) :=
  of_row 20 "divu" ⟨63#6, 0#5, 0#5, 31#5, 31#5, 63#6⟩ ⟨0#6, 0#5, 0#5, 0#5, 0#5, 27#6⟩
    rfl rfl all6 free free all5 all5 all6

theorem mfhi (rd : Reg) : Statement (.mfhi rd) :=
  of_row 13 "mfhi" ⟨63#6, 31#5, 31#5, 0#5, 31#5, 63#6⟩ ⟨0#6, 0#5, 0#5, 0#5, 0#5, 16#6⟩
    rfl rfl all6 all5 all5 free all5 all6

theorem mflo (rd : Reg) : Statement (.mflo rd) :=
  of_row 15 "mflo" ⟨63#6, 31#5, 31#5, 0#5, 31#5, 63#6⟩ ⟨0#6, 0#5, 0#5, 0#5, 0#5, 18#6⟩
    rfl rfl all6 all5 all5 free all5 all6

theorem mthi (rs : Reg) : Statement (.mthi rs) :=
  of_row 14 "mthi" ⟨63#6, 0#5, 31#5, 31#5, 31#5, 63#6⟩ ⟨0#6, 0#5, 0#5, 0#5, 0#5, 17#6⟩
    rfl rfl all6 free all5 all5 all5 all6

theorem mtlo (rs : Reg) : Statement (.mtlo rs) :=
  of_row 16 "mtlo" ⟨63#6, 0#5, 31#5, 31#5, 31#5, 63#6⟩ ⟨0#6, 0#5, 0#5, 0#5, 0#5, 19#6⟩
    rfl rfl all6 free all5 all5 all5 all6

theorem lwc1 (ft : FReg) (imm : BitVec 16) (rs : Reg) : Statement (.lwc1 ft imm rs) :=
  of_row 67 "lwc1" ⟨63#6, 0#5, 0#5, 0#5, 0#5, 0#6⟩ ⟨49#6, 0#5, 0#5, 0#5, 0#5, 0#6⟩
    rfl rfl all6 free free free free free

theorem ldc1 (ft : FReg) (imm : BitVec 16) (rs : Reg) : Statement (.ldc1 ft imm rs) :=
  of_row 68 "ldc1" ⟨63#6, 0#5, 0#5, 0#5, 0#5, 0#6⟩ ⟨53#6, 0#5, 0#5, 0#5, 0#5, 0#6⟩
    rfl rfl all6 free free free free free

theorem swc1 (ft : FReg) (imm : BitVec 16) (rs : Reg) : Statement (.swc1 ft imm rs) :=
  of_row 69 "swc1" ⟨63#6, 0#5, 0#5, 0#5, 0#5, 0#6⟩ ⟨57#6, 0#5, 0#5, 0#5, 0#5, 0#6⟩
    rfl rfl all6 free free free free free

theorem sdc1 (ft : FReg) (imm : BitVec 16) (rs : Reg) : Statement (.sdc1 ft imm rs) :=
  of_row 70 "sdc1" ⟨63#6, 0#5, 0#5, 0#5, 0#5, 0#6⟩ ⟨61#6, 0#5, 0#5, 0#5, 0#5, 0#6⟩
    rfl rfl all6 free free free free free

theorem addS (fd fs ft : FReg) : Statement (.addS fd fs ft) :=
  of_row 86 "add.s" ⟨63#6, 31#5, 0#5, 0#5, 0#5, 63#6⟩ ⟨17#6, 16#5, 0#5, 0#5, 0#5, 0#6⟩
    rfl rfl all6 all5 free free free all6

theorem subS (fd fs ft : FReg) : Statement (.subS fd fs ft) :=
  of_row 87 "sub.s" ⟨63#6, 31#5, 0#5, 0#5, 0#5, 63#6⟩ ⟨17#6, 16#5, 0#5, 0#5, 0#5, 1#6⟩
    rfl rfl all6 all5 free free free all6

theorem mulS (fd fs ft : FReg) : Statement (.mulS fd fs ft) :=
  of_row 88 "mul.s" ⟨63#6, 31#5, 0#5, 0#5, 0#5, 63#6⟩ ⟨17#6, 16#5, 0#5, 0#5, 0#5, 2#6⟩
    rfl rfl all6 all5 free free free all6

theorem divS (fd fs ft : FReg) : Statement (.divS fd fs ft) :=
  of_row 89 "div.s" ⟨63#6, 31#5, 0#5, 0#5, 0#5, 63#6⟩ ⟨17#6, 16#5, 0#5, 0#5, 0#5, 3#6⟩
    rfl rfl all6 all5 free free free all6

theorem sqrtS (fd fs : FReg) : Statement (.sqrtS fd fs) :=
  of_row 90 "sqrt.s" ⟨63#6, 31#5, 31#5, 0#5, 0#5, 63#6⟩ ⟨17#6, 16#5, 0#5, 0#5, 0#5, 4#6⟩
    rfl rfl all6 all5 all5 free free all6

theorem absS (fd fs : FReg) : Statement (.absS fd fs) :=
  of_row 91 "abs.s" ⟨63#6, 31#5, 31#5, 0#5, 0#5, 63#6⟩ ⟨17#6, 16#5, 0#5, 0#5, 0#5, 5#6⟩
    rfl rfl all6 all5 all5 free free all6

theorem movS (fd fs : FReg) : Statement (.movS fd fs) :=
  of_row 92 "mov.s" ⟨63#6, 31#5, 31#5, 0#5, 0#5, 63#6⟩ ⟨17#6, 16#5, 0#5, 0#5, 0#5, 6#6⟩
    rfl rfl all6 all5 all5 free free all6

theorem negS (fd fs : FReg) : Statement (.negS fd fs) :=
  of_row 93 "neg.s" ⟨63#6, 31#5, 31#5, 0#5, 0#5, 63#6⟩ ⟨17#6, 16#5, 0#5, 0#5, 0#5, 7#6⟩
    rfl rfl all6 all5 all5 free free all6

theorem roundWS (fd fs : FReg) : Statement (.roundWS fd fs) :=
  of_row 94 "round.w.s" ⟨63#6, 31#5, 31#5, 0#5, 0#5, 63#6⟩ ⟨17#6, 16#5, 0#5, 0#5, 0#5, 12#6⟩
    rfl rfl all6 all5 all5 free free all6

theorem truncWS (fd fs : FReg) : Statement (.truncWS fd fs) :=
  of_row 95 "trunc.w.s" ⟨63#6, 31#5, 31#5, 0#5, 0#5, 63#6⟩ ⟨17#6, 16#5, 0#5, 0#5, 0#5, 13#6⟩
    rfl rfl all6 all5 all5 free free all6

theorem ceilWS (fd fs : FReg) : Statement (.ceilWS fd fs) :=
  of_row 96 "ceil.w.s" ⟨63#6, 31#5, 31#5, 0#5, 0#5, 63#6⟩ ⟨17#6, 16#5, 0#5, 0#5, 0#5, 14#6⟩
    rfl rfl all6 all5 all5 free free all6

theorem floorWS (fd fs : FReg) : Statement (.floorWS fd fs) :=
  of_row 97 "floor.w.s" ⟨63#6, 31#5, 31#5, 0#5, 0#5, 63#6⟩ ⟨17#6, 16#5, 0#5, 0#5, 0#5, 15#6⟩
    rfl rfl all6 all5 all5 free free all6

theorem movzS (fd fs : FReg) (rt : Reg) : Statement (.movzS fd fs rt) :=
  of_row 98 "movz.s" ⟨63#6, 31#5, 0#5, 0#5, 0#5, 63#6⟩ ⟨17#6, 16#5, 0#5, 0#5, 0#5, 18#6⟩
    rfl rfl all6 all5 free free free all6

theorem movnS (fd fs : FReg) (rt : Reg) : Statement (.movnS fd fs rt) :=
  of_row 99 "movn.s" ⟨63#6, 31#5, 0#5, 0#5, 0#5, 63#6⟩ ⟨17#6, 16#5, 0#5, 0#5, 0#5, 19#6⟩
    rfl rfl all6 all5 free free free all6

theorem cvtDS (fd fs : FReg) : Statement (.cvtDS fd fs) :=
  of_row 100 "cvt.d.s" ⟨63#6, 31#5, 31#5, 0#5, 0#5, 63#6⟩ ⟨17#6, 16#5, 0#5, 0#5, 0#5, 33#6⟩
    rfl rfl all6 all5 all5 free free all6

theorem cvtWS (fd fs : FReg) : Statement (.cvtWS fd fs) :=
  of_row 101 "cvt.w.s" ⟨63#6, 31#5, 31#5, 0#5, 0#5, 63#6⟩ ⟨17#6, 16#5, 0#5, 0#5, 0#5, 36#6⟩
    rfl rfl all6 all5 all5 free free all6

theorem addD (fd fs ft : FReg) : Statement (.addD fd fs ft) :=
  of_row 118 "add.d" ⟨63#6, 31#5, 0#5, 0#5, 0#5, 63#6⟩ ⟨17#6, 17#5, 0#5, 0#5, 0#5, 0#6⟩
    rfl rfl all6 all5 free free free all6

theorem subD (fd fs ft : FReg) : Statement (.subD fd fs ft) :=
  of_row 119 "sub.d" ⟨63#6, 31#5, 0#5, 0#5, 0#5, 63#6⟩ ⟨17#6, 17#5, 0#5, 0#5, 0#5, 1#6⟩
    rfl rfl all6 all5 free free free all6

theorem mulD (fd fs ft : FReg) : Statement (.mulD fd fs ft) :=
  of_row 120 "mul.d" ⟨63#6, 31#5, 0#5, 0#5, 0#5, 63#6⟩ ⟨17#6, 17#5, 0#5, 0#5, 0#5, 2#6⟩
    rfl rfl all6 all5 free free free all6

theorem divD (fd fs ft : FReg) : Statement (.divD fd fs ft) :=
  of_row 121 "div.d" ⟨63#6, 31#5, 0#5, 0#5, 0#5, 63#6⟩ ⟨17#6, 17#5, 0#5, 0#5, 0#5, 3#6⟩
    rfl rfl all6 all5 free free free all6

theorem sqrtD (fd fs : FReg) : Statement (.sqrtD fd fs) :=
  of_row 122 "sqrt.d" ⟨63#6, 31#5, 31#5, 0#5, 0#5, 63#6⟩ ⟨17#6, 17#5, 0#5, 0#5, 0#5, 4#6⟩
    rfl rfl all6 all5 all5 free free all6

theorem absD (fd fs : FReg) : Statement (.absD fd fs) :=
  of_row 123 "abs.d" ⟨63#6, 31#5, 31#5, 0#5, 0#5, 63#6⟩ ⟨17#6, 17#5, 0#5, 0#5, 0#5, 5#6⟩
    rfl rfl all6 all5 all5 free free all6

theorem movD (fd fs : FReg) : Statement (.movD fd fs) :=
  of_row 124 "mov.d" ⟨63#6, 31#5, 31#5, 0#5, 0#5, 63#6⟩ ⟨17#6, 17#5, 0#5, 0#5, 0#5, 6#6⟩
    rfl rfl all6 all5 all5 free free all6

theorem negD (fd fs : FReg) : Statement (.negD fd fs) :=
  of_row 125 "neg.d" ⟨63#6, 31#5, 31#5, 0#5, 0#5, 63#6⟩ ⟨17#6, 17#5, 0#5, 0#5, 0#5, 7#6⟩
    rfl rfl all6 all5 all5 free free all6

theorem roundWD (fd fs : FReg) : Statement (.roundWD fd fs) :=
  of_row 126 "round.w.d" ⟨63#6, 31#5, 31#5, 0#5, 0#5, 63#6⟩ ⟨17#6, 17#5, 0#5, 0#5, 0#5, 12#6⟩
    rfl rfl all6 all5 all5 free free all6

theorem truncWD (fd fs : FReg) : Statement (.truncWD fd fs) :=
  of_row 127 "trunc.w.d" ⟨63#6, 31#5, 31#5, 0#5, 0#5, 63#6⟩ ⟨17#6, 17#5, 0#5, 0#5, 0#5, 13#6⟩
    rfl rfl all6 all5 all5 free free all6

theorem ceilWD (fd fs : FReg) : Statement (.ceilWD fd fs) :=
  of_row 128 "ceil.w.d" ⟨63#6, 31#5, 31#5, 0#5, 0#5, 63#6⟩ ⟨17#6, 17#5, 0#5, 0#5, 0#5, 14#6⟩
    rfl rfl all6 all5 all5 free free all6

theorem floorWD (fd fs : FReg) : Statement (.floorWD fd fs) :=
  of_row 129 "floor.w.d" ⟨63#6, 31#5, 31#5, 0#5, 0#5, 63#6⟩ ⟨17#6, 17#5, 0#5, 0#5, 0#5, 15#6⟩
    rfl rfl all6 all5 all5 free free all6

theorem movzD (fd fs : FReg) (rt : Reg) : Statement (.movzD fd fs rt) :=
  of_row 130 "movz.d" ⟨63#6, 31#5, 0#5, 0#5, 0#5, 63#6⟩ ⟨17#6, 17#5, 0#5, 0#5, 0#5, 18#6⟩
    rfl rfl all6 all5 free free free all6

theorem movnD (fd fs : FReg) (rt : Reg) : Statement (.movnD fd fs rt) :=
  of_row 131 "movn.d" ⟨63#6, 31#5, 0#5, 0#5, 0#5, 63#6⟩ ⟨17#6, 17#5, 0#5, 0#5, 0#5, 19#6⟩
    rfl rfl all6 all5 free free free all6

theorem cvtSD (fd fs : FReg) : Statement (.cvtSD fd fs) :=
  of_row 132 "cvt.s.d" ⟨63#6, 31#5, 31#5, 0#5, 0#5, 63#6⟩ ⟨17#6, 17#5, 0#5, 0#5, 0#5, 32#6⟩
    rfl rfl all6 all5 all5 free free all6

theorem cvtWD (fd fs : FReg) : Statement (.cvtWD fd fs) :=
  of_row 133 "cvt.w.d" ⟨63#6, 31#5, 31#5, 0#5, 0#5, 63#6⟩ ⟨17#6, 17#5, 0#5, 0#5, 0#5, 36#6⟩
    rfl rfl all6 all5 all5 free free all6

theorem cFS (cc : CcNum) (fs ft : FReg) : Statement (.cFS cc fs ft) :=
  of_row 102 "c.f.s" ⟨63#6, 31#5, 0#5, 0#5, 3#5, 63#6⟩ ⟨17#6, 16#5, 0#5, 0#5, 0#5, 48#6⟩
    rfl rfl all6 all5 free free (cc_low cc) all6

theorem cUnS (cc : CcNum) (fs ft : FReg) : Statement (.cUnS cc fs ft) :=
  of_row 103 "c.un.s" ⟨63#6, 31#5, 0#5, 0#5, 3#5, 63#6⟩ ⟨17#6, 16#5, 0#5, 0#5, 0#5, 49#6⟩
    rfl rfl all6 all5 free free (cc_low cc) all6

theorem cEqS (cc : CcNum) (fs ft : FReg) : Statement (.cEqS cc fs ft) :=
  of_row 104 "c.eq.s" ⟨63#6, 31#5, 0#5, 0#5, 3#5, 63#6⟩ ⟨17#6, 16#5, 0#5, 0#5, 0#5, 50#6⟩
    rfl rfl all6 all5 free free (cc_low cc) all6

theorem cUeqS (cc : CcNum) (fs ft : FReg) : Statement (.cUeqS cc fs ft) :=
  of_row 105 "c.ueq.s" ⟨63#6, 31#5, 0#5, 0#5, 3#5, 63#6⟩ ⟨17#6, 16#5, 0#5, 0#5, 0#5, 51#6⟩
    rfl rfl all6 all5 free free (cc_low cc) all6

theorem cOltS (cc : CcNum) (fs ft : FReg) : Statement (.cOltS cc fs ft) :=
  of_row 106 "c.olt.s" ⟨63#6, 31#5, 0#5, 0#5, 3#5, 63#6⟩ ⟨17#6, 16#5, 0#5, 0#5, 0#5, 52#6⟩
    rfl rfl all6 all5 free free (cc_low cc) all6

theorem cUltS (cc : CcNum) (fs ft : FReg) : Statement (.cUltS cc fs ft) :=
  of_row 107 "c.ult.s" ⟨63#6, 31#5, 0#5, 0#5, 3#5, 63#6⟩ ⟨17#6, 16#5, 0#5, 0#5, 0#5, 53#6⟩
    rfl rfl all6 all5 free free (cc_low cc) all6

theorem cOleS (cc : CcNum) (fs ft : FReg) : Statement (.cOleS cc fs ft) :=
  of_row 108 "c.ole.s" ⟨63#6, 31#5, 0#5, 0#5, 3#5, 63#6⟩ ⟨17#6, 16#5, 0#5, 0#5, 0#5, 54#6⟩
    rfl rfl all6 all5 free free (cc_low cc) all6

theorem cUleS (cc : CcNum) (fs ft : FReg) : Statement (.cUleS cc fs ft) :=
  of_row 109 "c.ule.s" ⟨63#6, 31#5, 0#5, 0#5, 3#5, 63#6⟩ ⟨17#6, 16#5, 0#5, 0#5, 0#5, 55#6⟩
    rfl rfl all6 all5 free free (cc_low cc) all6

theorem cSfS (cc : CcNum) (fs ft : FReg) : Statement (.cSfS cc fs ft) :=
  of_row 110 "c.sf.s" ⟨63#6, 31#5, 0#5, 0#5, 3#5, 63#6⟩ ⟨17#6, 16#5, 0#5, 0#5, 0#5, 56#6⟩
    rfl rfl all6 all5 free free (cc_low cc) all6

theorem cNgleS (cc : CcNum) (fs ft : FReg) : Statement (.cNgleS cc fs ft) :=
  of_row 111 "c.ngle.s" ⟨63#6, 31#5, 0#5, 0#5, 3#5, 63#6⟩ ⟨17#6, 16#5, 0#5, 0#5, 0#5, 57#6⟩
    rfl rfl all6 all5 free free (cc_low cc) all6

theorem cSeqS (cc : CcNum) (fs ft : FReg) : Statement (.cSeqS cc fs ft) :=
  of_row 112 "c.seq.s" ⟨63#6, 31#5, 0#5, 0#5, 3#5, 63#6⟩ ⟨17#6, 16#5, 0#5, 0#5, 0#5, 58#6⟩
    rfl rfl all6 all5 free free (cc_low cc) all6

theorem cNglS (cc : CcNum) (fs ft : FReg) : Statement (.cNglS cc fs ft) :=
  of_row 113 "c.ngl.s" ⟨63#6, 31#5, 0#5, 0#5, 3#5, 63#6⟩ ⟨17#6, 16#5, 0#5, 0#5, 0#5, 59#6⟩
    rfl rfl all6 all5 free free (cc_low cc) all6

theorem cLtS (cc : CcNum) (fs ft : FReg) : Statement (.cLtS cc fs ft) :=
  of_row 114 "c.lt.s" ⟨63#6, 31#5, 0#5, 0#5, 3#5, 63#6⟩ ⟨17#6, 16#5, 0#5, 0#5, 0#5, 60#6⟩
    rfl rfl all6 all5 free free (cc_low cc) all6

theorem cNgeS (cc : CcNum) (fs ft : FReg) : Statement (.cNgeS cc fs ft) :=
  of_row 115 "c.nge.s" ⟨63#6, 31#5, 0#5, 0#5, 3#5, 63#6⟩ ⟨17#6, 16#5, 0#5, 0#5, 0#5, 61#6⟩
    rfl rfl all6 all5 free free (cc_low cc) all6

theorem cLeS (cc : CcNum) (fs ft : FReg) : Statement (.cLeS cc fs ft) :=
  of_row 116 "c.le.s" ⟨63#6, 31#5, 0#5, 0#5, 3#5, 63#6⟩ ⟨17#6, 16#5, 0#5, 0#5, 0#5, 62#6⟩
    rfl rfl all6 all5 free free (cc_low cc) all6

theorem cNgtS (cc : CcNum) (fs ft : FReg) : Statement (.cNgtS cc fs ft) :=
  of_row 117 "c.ngt.s" ⟨63#6, 31#5, 0#5, 0#5, 3#5, 63#6⟩ ⟨17#6, 16#5, 0#5, 0#5, 0#5, 63#6⟩
    rfl rfl all6 all5 free free (cc_low cc) all6

theorem cFD (cc : CcNum) (fs ft : FReg) : Statement (.cFD cc fs ft) :=
  of_row 134 "c.f.d" ⟨63#6, 31#5, 0#5, 0#5, 3#5, 63#6⟩ ⟨17#6, 17#5, 0#5, 0#5, 0#5, 48#6⟩
    rfl rfl all6 all5 free free (cc_low cc) all6

theorem cUnD (cc : CcNum) (fs ft : FReg) : Statement (.cUnD cc fs ft) :=
  of_row 135 "c.un.d" ⟨63#6, 31#5, 0#5, 0#5, 3#5, 63#6⟩ ⟨17#6, 17#5, 0#5, 0#5, 0#5, 49#6⟩
    rfl rfl all6 all5 free free (cc_low cc) all6

theorem cEqD (cc : CcNum) (fs ft : FReg) : Statement (.cEqD cc fs ft) :=
  of_row 136 "c.eq.d" ⟨63#6, 31#5, 0#5, 0#5, 3#5, 63#6⟩ ⟨17#6, 17#5, 0#5, 0#5, 0#5, 50#6⟩
    rfl rfl all6 all5 free free (cc_low cc) all6

theorem cUeqD (cc : CcNum) (fs ft : FReg) : Statement (.cUeqD cc fs ft) :=
  of_row 137 "c.ueq.d" ⟨63#6, 31#5, 0#5, 0#5, 3#5, 63#6⟩ ⟨17#6, 17#5, 0#5, 0#5, 0#5, 51#6⟩
    rfl rfl all6 all5 free free (cc_low cc) all6

theorem cOltD (cc : CcNum) (fs ft : FReg) : Statement (.cOltD cc fs ft) :=
  of_row 138 "c.olt.d" ⟨63#6, 31#5, 0#5, 0#5, 3#5, 63#6⟩ ⟨17#6, 17#5, 0#5, 0#5, 0#5, 52#6⟩
    rfl rfl all6 all5 free free (cc_low cc) all6

theorem cUltD (cc : CcNum) (fs ft : FReg) : Statement (.cUltD cc fs ft) :=
  of_row 139 "c.ult.d" ⟨63#6, 31#5, 0#5, 0#5, 3#5, 63#6⟩ ⟨17#6, 17#5, 0#5, 0#5, 0#5, 53#6⟩
    rfl rfl all6 all5 free free (cc_low cc) all6

theorem cOleD (cc : CcNum) (fs ft : FReg) : Statement (.cOleD cc fs ft) :=
  of_row 140 "c.ole.d" ⟨63#6, 31#5, 0#5, 0#5, 3#5, 63#6⟩ ⟨17#6, 17#5, 0#5, 0#5, 0#5, 54#6⟩
    rfl rfl all6 all5 free free (cc_low cc) all6

theorem cUleD (cc : CcNum) (fs ft : FReg) : Statement (.cUleD cc fs ft) :=
  of_row 141 "c.ule.d" ⟨63#6, 31#5, 0#5, 0#5, 3#5, 63#6⟩ ⟨17#6, 17#5, 0#5, 0#5, 0#5, 55#6⟩
    rfl rfl all6 all5 free free (cc_low cc) all6

theorem cSfD (cc : CcNum) (fs ft : FReg) : Statement (.cSfD cc fs ft) :=
  of_row 142 "c.sf.d" ⟨63#6, 31#5, 0#5, 0#5, 3#5, 63#6⟩ ⟨17#6, 17#5, 0#5, 0#5, 0#5, 56#6⟩
    rfl rfl all6 all5 free free (cc_low cc) all6

theorem cNgleD (cc : CcNum) (fs ft : FReg) : Statement (.cNgleD cc fs ft) :=
  of_row 143 "c.ngle.d" ⟨63#6, 31#5, 0#5, 0#5, 3#5, 63#6⟩ ⟨17#6, 17#5, 0#5, 0#5, 0#5, 57#6⟩
    rfl rfl all6 all5 free free (cc_low cc) all6

theorem cSeqD (cc : CcNum) (fs ft : FReg) : Statement (.cSeqD cc fs ft) :=
  of_row 144 "c.seq.d" ⟨63#6, 31#5, 0#5, 0#5, 3#5, 63#6⟩ ⟨17#6, 17#5, 0#5, 0#5, 0#5, 58#6⟩
    rfl rfl all6 all5 free free (cc_low cc) all6

theorem cNglD (cc : CcNum) (fs ft : FReg) : Statement (.cNglD cc fs ft) :=
  of_row 145 "c.ngl.d" ⟨63#6, 31#5, 0#5, 0#5, 3#5, 63#6⟩ ⟨17#6, 17#5, 0#5, 0#5, 0#5, 59#6⟩
    rfl rfl all6 all5 free free (cc_low cc) all6

theorem cLtD (cc : CcNum) (fs ft : FReg) : Statement (.cLtD cc fs ft) :=
  of_row 146 "c.lt.d" ⟨63#6, 31#5, 0#5, 0#5, 3#5, 63#6⟩ ⟨17#6, 17#5, 0#5, 0#5, 0#5, 60#6⟩
    rfl rfl all6 all5 free free (cc_low cc) all6

theorem cNgeD (cc : CcNum) (fs ft : FReg) : Statement (.cNgeD cc fs ft) :=
  of_row 147 "c.nge.d" ⟨63#6, 31#5, 0#5, 0#5, 3#5, 63#6⟩ ⟨17#6, 17#5, 0#5, 0#5, 0#5, 61#6⟩
    rfl rfl all6 all5 free free (cc_low cc) all6

theorem cLeD (cc : CcNum) (fs ft : FReg) : Statement (.cLeD cc fs ft) :=
  of_row 148 "c.le.d" ⟨63#6, 31#5, 0#5, 0#5, 3#5, 63#6⟩ ⟨17#6, 17#5, 0#5, 0#5, 0#5, 62#6⟩
    rfl rfl all6 all5 free free (cc_low cc) all6

theorem cNgtD (cc : CcNum) (fs ft : FReg) : Statement (.cNgtD cc fs ft) :=
  of_row 149 "c.ngt.d" ⟨63#6, 31#5, 0#5, 0#5, 3#5, 63#6⟩ ⟨17#6, 17#5, 0#5, 0#5, 0#5, 63#6⟩
    rfl rfl all6 all5 free free (cc_low cc) all6

theorem lwl (rt : Reg) (imm : BitVec 16) (rs : Reg) : Statement (.lwl rt imm rs) :=
  of_row 71 "lwl" ⟨63#6, 0#5, 0#5, 0#5, 0#5, 0#6⟩ ⟨34#6, 0#5, 0#5, 0#5, 0#5, 0#6⟩
    rfl rfl all6 free free free free free

theorem lwr (rt : Reg) (imm : BitVec 16) (rs : Reg) : Statement (.lwr rt imm rs) :=
  of_row 72 "lwr" ⟨63#6, 0#5, 0#5, 0#5, 0#5, 0#6⟩ ⟨38#6, 0#5, 0#5, 0#5, 0#5, 0#6⟩
    rfl rfl all6 free free free free free

theorem swl (rt : Reg) (imm : BitVec 16) (rs : Reg) : Statement (.swl rt imm rs) :=
  of_row 73 "swl" ⟨63#6, 0#5, 0#5, 0#5, 0#5, 0#6⟩ ⟨42#6, 0#5, 0#5, 0#5, 0#5, 0#6⟩
    rfl rfl all6 free free free free free

theorem swr (rt : Reg) (imm : BitVec 16) (rs : Reg) : Statement (.swr rt imm rs) :=
  of_row 74 "swr" ⟨63#6, 0#5, 0#5, 0#5, 0#5, 0#6⟩ ⟨46#6, 0#5, 0#5, 0#5, 0#5, 0#6⟩
    rfl rfl all6 free free free free free

theorem cache (rt : Reg) (imm : BitVec 16) (rs : Reg) : Statement (.cache rt imm rs) :=
  of_row 75 "cache" ⟨63#6, 0#5, 0#5, 0#5, 0#5, 0#6⟩ ⟨47#6, 0#5, 0#5, 0#5, 0#5, 0#6⟩
    rfl rfl all6 free free free free free

theorem pref (rt : Reg) (imm : BitVec 16) (rs : Reg) : Statement (.pref rt imm rs) :=
  of_row 77 "pref" ⟨63#6, 0#5, 0#5, 0#5, 0#5, 0#6⟩ ⟨51#6, 0#5, 0#5, 0#5, 0#5, 0#6⟩
    rfl rfl all6 free free free free free

theorem lwc2 (rt : Reg) (imm : BitVec 16) (rs : Reg) : Statement (.lwc2 rt imm rs) :=
  of_row 76 "lwc2" ⟨63#6, 0#5, 0#5, 0#5, 0#5, 0#6⟩ ⟨50#6, 0#5, 0#5, 0#5, 0#5, 0#6⟩
    rfl rfl all6 free free free free free

theorem ldc2 (rt : Reg) (imm : BitVec 16) (rs : Reg) : Statement (.ldc2 rt imm rs) :=
  of_row 78 "ldc2" ⟨63#6, 0#5, 0#5, 0#5, 0#5, 0#6⟩ ⟨54#6, 0#5, 0#5, 0#5, 0#5, 0#6⟩
    rfl rfl all6 free free free free free

theorem swc2 (rt : Reg) (imm : BitVec 16) (rs : Reg) : Statement (.swc2 rt imm rs) :=
  of_row 79 "swc2" ⟨63#6, 0#5, 0#5, 0#5, 0#5, 0#6⟩ ⟨58#6, 0#5, 0#5, 0#5, 0#5, 0#6⟩
    rfl rfl all6 free free free free free

theorem sdc2 (rt : Reg) (imm : BitVec 16) (rs : Reg) : Statement (.sdc2 rt imm rs) :=
  of_row 80 "sdc2" ⟨63#6, 0#5, 0#5, 0#5, 0#5, 0#6⟩ ⟨62#6, 0#5, 0#5, 0#5, 0#5, 0#6⟩
    rfl rfl all6 free free free free free

theorem sync : Statement .sync :=
  of_row 12 "sync" ⟨63#6, 31#5, 31#5, 31#5, 31#5, 63#6⟩ ⟨0#6, 0#5, 0#5, 0#5, 0#5, 15#6⟩
    rfl rfl all6 all5 all5 all5 all5 all6

end Sys2Proof.Laws.OpcodeRow
end

