-- ==== Sys2Proof/Laws/Step.lean ====
section
/-! SUPPORT. Everything a step can do, said once, in the terms of Safety.lean: when an interrupt is takeable, what a fetch gives,
and the next states a step can answer with. -/

namespace Sys2Proof.Machine

theorem State.interruptTakeable_iff (s : State) : s.interruptTakeable = true ↔ Takeable s := by
  simp [State.interruptTakeable, State.pending, and_assoc]

theorem State.interruptTakeable_eq_false_iff (s : State) : s.interruptTakeable = false ↔ ¬Takeable s := by
  rw [← s.interruptTakeable_iff, Bool.not_eq_true]

theorem ticked_eq_linesMoveOn (r : Result) : ticked r = linesMoveOn r := by
  cases r <;> rfl

theorem State.readWord_pc (s : State) : s.readWord s.pc = wordAtPc s := rfl

/-- A fetch: the checks in the order of R338, then the word at `pc` (R57, R58, R63). -/
theorem State.fetch_eq (s : State) :
    s.fetch = if s.pc.toNat % 4 ≠ 0 ∨ Barred s s.pc then .error (.addressErrorLoad s.pc)
      else if Backed s s.pc 4 then .ok (wordAtPc s) else .error .busErrorFetch := by
  unfold State.fetch
  simp only [s.segmentBarred_iff, s.backed_iff, s.readWord_pc]
  by_cases h1 : s.pc.toNat % 4 ≠ 0
  · rw [if_pos h1, if_pos (.inl h1)]
  · simp only [h1, if_false, false_or]

/-- What a fetch raises has code 4 or 6 (R57, R58). -/
theorem State.fetch_code {s : State} {e : Exception} (h : s.fetch = .error e) : e.code = 4#5 ∨ e.code = 6#5 := by
  rw [s.fetch_eq] at h
  split at h
  · cases h; exact .inl rfl
  · split at h
    · cases h
    · cases h; exact .inr rfl

/-- A step: the interrupt entry, the fetch's exception, or the fetched word run; then the lines move on (R338, R341). -/
theorem step_eq (s : State) :
    step s = linesMoveOn (if Takeable s then .next (s.raise .interrupt)
      else match s.fetch with
        | .error e => .next (s.raise e)
        | .ok w => runWord w s) := by
  refine (ticked_eq_linesMoveOn s.present).trans (congrArg linesMoveOn ?_)
  by_cases h : Takeable s
  · exact (if_pos (s.interruptTakeable_iff.2 h)).trans (if_pos h).symm
  · exact (if_neg (mt s.interruptTakeable_iff.1 h)).trans (if_neg h).symm

/-- What running a fetched word can do: an exception entry other than an interrupt's, or what an instruction can do. -/
theorem runWord_next {w : Word} {s t : State} (h : runWord w s = .next t) :
    (∃ e : Exception, e.code ≠ 0#5 ∧ t = s.raise e) ∨ ∃ i, Effect i s t := by
  unfold runWord at h
  split at h
  next i _ => exact .inr ⟨i, exec_effect h⟩
  · unfold unlistedWord at h
    split at h
    · cases h; exact .inl ⟨_, by decide, rfl⟩
    · split at h
      · cases h; exact .inl ⟨_, by decide, rfl⟩
      · cases h

/-- The next states of a step: after an exception or interrupt entry, or after what an instruction can do, the lines moved on. -/
theorem step_next {s t : State} (h : step s = .next t) :
    ∃ u : State, t = { u with irq := u.irq.tail } ∧
      ((Takeable s ∧ u = s.raise .interrupt) ∨ (¬Takeable s ∧ ∃ e : Exception, e.code ≠ 0#5 ∧ u = s.raise e) ∨
        (¬Takeable s ∧ ∃ i, Effect i s u)) := by
  rw [step_eq] at h
  generalize hr : (if Takeable s then _ else _ : Result) = r at h
  cases r with
  | fault r => cases h
  | refused r => cases h
  | next u =>
    cases h
    refine ⟨u, rfl, ?_⟩
    by_cases ht : Takeable s
    · rw [if_pos ht] at hr; cases hr; exact .inl ⟨ht, rfl⟩
    · rw [if_neg ht] at hr
      split at hr
      next e he =>
        cases hr
        exact .inr (.inl ⟨ht, e, by rcases s.fetch_code he with h | h <;> rw [h] <;> decide, rfl⟩)
      next w _ =>
        rcases runWord_next hr with h | h
        · exact .inr (.inl ⟨ht, h⟩)
        · exact .inr (.inr ⟨ht, h⟩)

end Sys2Proof.Machine
end

