-- ==== Sys2Proof/Tests/Slice0.lean ====
section
/-! SUPPORT. The model's own tests: what WellFormed refuses; every constructor's decoding, from words written out from the spec's
encodings; single steps, from the vectors of spec/95_test_vectors.md and the cases of R360; and, for each statement with
hypotheses or clauses, states and operands that meet them. -/

namespace Sys2Proof.Tests

open Sys2Proof.Machine

set_option Elab.async false

/-! ### What WellFormed refuses -/

/-- An odd register as a double-precision operand (R257). -/
theorem test_illformed_odd_double : (Instr.addD 1 2 4).wellFormed = false := by decide

theorem test_illformed_odd_double_load : (Instr.ldc1 3 0 8).wellFormed = false := by decide

/-- `jalr` with `rd` = `rs` (R194). -/
theorem test_illformed_jalr : (Instr.jalr 8 8).wellFormed = false := by decide

/-- `bgezal` and `bltzal` on register 31 (R170, R173). -/
theorem test_illformed_linking_branch : (Instr.bgezal 31 3).wellFormed = false ∧ (Instr.bltzal 31 3).wellFormed = false := by
  decide

theorem test_wellformed : (Instr.addD 0 2 4).wellFormed = true ∧ (Instr.addS 1 3 5).wellFormed = true ∧
    (Instr.roundWD 1 2).wellFormed = true ∧ (Instr.jalr 31 8).wellFormed = true ∧ (Instr.bgezal 30 3).wellFormed = true := by
  decide

/-! ### Decoding

Each word is the row's fixed bits of R90 to R95 with distinct operands at the positions of R81 to R84, R88: `rs` = 8, `rt` = 9,
`rd` = 10, `shamt` = 19, `imm` = 0xfedc, `fs` = 2, `ft` = 4, `fd` = 6, `cc` = 5. -/

/-- Every word decodes to its instruction. -/
def decodesTo (l : List (Word × Instr)) : Bool := l.all fun p => decide (decode p.1 = .ok p.2)

theorem test_decode_arithmetic_logical : decodesTo
  [(0x01095020, .add 10 8 9), (0x2109fedc, .addi 9 8 0xfedc), (0x2509fedc, .addiu 9 8 0xfedc), (0x01095021, .addu 10 8 9),
   (0x01095024, .and 10 8 9), (0x3109fedc, .andi 9 8 0xfedc), (0x01095027, .nor 10 8 9), (0x01095025, .or 10 8 9),
   (0x3509fedc, .ori 9 8 0xfedc), (0x000954c0, .sll 10 9 19), (0x000954c2, .srl 10 9 19), (0x000954c3, .sra 10 9 19),
   (0x01095022, .sub 10 8 9), (0x01095023, .subu 10 8 9), (0x01095026, .xor 10 8 9), (0x3909fedc, .xori 9 8 0xfedc),
   (0x01095004, .sllv 10 9 8), (0x01095006, .srlv 10 9 8), (0x01095007, .srav 10 9 8), (0x0109500a, .movz 10 8 9),
   (0x0109500b, .movn 10 8 9)] = true := by
  decide +kernel

theorem test_decode_constant_manipulating : decodesTo
  [(0x3c09fedc, .lui 9 0xfedc)] = true := by
  decide +kernel

theorem test_decode_comparison : decodesTo
  [(0x0109502a, .slt 10 8 9), (0x0109502b, .sltu 10 8 9), (0x2909fedc, .slti 9 8 0xfedc), (0x2d09fedc, .sltiu 9 8 0xfedc)] = true := by
  decide +kernel

theorem test_decode_branch : decodesTo
  [(0x4514fedc, .bc1f 5 0xfedc), (0x4515fedc, .bc1t 5 0xfedc), (0x1109fedc, .beq 8 9 0xfedc), (0x0501fedc, .bgez 8 0xfedc),
   (0x0511fedc, .bgezal 8 0xfedc), (0x1d00fedc, .bgtz 8 0xfedc), (0x1900fedc, .blez 8 0xfedc),
   (0x0510fedc, .bltzal 8 0xfedc), (0x0500fedc, .bltz 8 0xfedc), (0x1509fedc, .bne 8 9 0xfedc)] = true := by
  decide +kernel

theorem test_decode_jump : decodesTo
  [(0x0a345678, .j 0x2345678), (0x0e345678, .jal 0x2345678), (0x01000008, .jr 8), (0x01005009, .jalr 10 8)] = true := by
  decide +kernel

theorem test_decode_trap : decodesTo
  [(0x0109adf4, .teq 8 9 0x2b7), (0x050cfedc, .teqi 8 0xfedc), (0x0109adf6, .tne 8 9 0x2b7), (0x050efedc, .tnei 8 0xfedc),
   (0x0109adf0, .tge 8 9 0x2b7), (0x0109adf1, .tgeu 8 9 0x2b7), (0x0109adf2, .tlt 8 9 0x2b7), (0x0109adf3, .tltu 8 9 0x2b7),
   (0x026af34c, .syscall 0x9abcd), (0x026af34d, .brk 0x9abcd), (0x40095000, .mfc0 9 10), (0x40895000, .mtc0 9 10),
   (0x42000018, .eret)] = true := by
  decide +kernel

theorem test_decode_load_store : decodesTo
  [(0x8109fedc, .lb 9 0xfedc 8), (0x9109fedc, .lbu 9 0xfedc 8), (0x8509fedc, .lh 9 0xfedc 8), (0x9509fedc, .lhu 9 0xfedc 8),
   (0x8d09fedc, .lw 9 0xfedc 8), (0xa109fedc, .sb 9 0xfedc 8), (0xa509fedc, .sh 9 0xfedc 8), (0xad09fedc, .sw 9 0xfedc 8),
   (0xc109fedc, .ll 9 0xfedc 8), (0xe109fedc, .sc 9 0xfedc 8)] = true := by
  decide +kernel

theorem test_decode_multiply_divide : decodesTo
  [(0x01090018, .mult 8 9), (0x01090019, .multu 8 9), (0x0109001a, .div 8 9), (0x0109001b, .divu 8 9),
   (0x00005010, .mfhi 10), (0x00005012, .mflo 10), (0x01000011, .mthi 8), (0x01000013, .mtlo 8)] = true := by
  decide +kernel

theorem test_decode_floating_point_1 : decodesTo
  [(0xc504fedc, .lwc1 4 0xfedc 8), (0xd504fedc, .ldc1 4 0xfedc 8), (0xe504fedc, .swc1 4 0xfedc 8),
   (0xf504fedc, .sdc1 4 0xfedc 8), (0x46041180, .addS 6 2 4), (0x46041181, .subS 6 2 4), (0x46041182, .mulS 6 2 4),
   (0x46041183, .divS 6 2 4), (0x46001184, .sqrtS 6 2), (0x46001185, .absS 6 2), (0x46001186, .movS 6 2),
   (0x46001187, .negS 6 2), (0x4600118c, .roundWS 6 2), (0x4600118d, .truncWS 6 2), (0x4600118e, .ceilWS 6 2),
   (0x4600118f, .floorWS 6 2), (0x46091192, .movzS 6 2 9), (0x46091193, .movnS 6 2 9), (0x460011a1, .cvtDS 6 2),
   (0x460011a4, .cvtWS 6 2), (0x46241180, .addD 6 2 4), (0x46241181, .subD 6 2 4), (0x46241182, .mulD 6 2 4),
   (0x46241183, .divD 6 2 4)] = true := by
  decide +kernel

theorem test_decode_floating_point_2 : decodesTo
  [(0x46201184, .sqrtD 6 2), (0x46201185, .absD 6 2), (0x46201186, .movD 6 2), (0x46201187, .negD 6 2),
   (0x4620118c, .roundWD 6 2), (0x4620118d, .truncWD 6 2), (0x4620118e, .ceilWD 6 2), (0x4620118f, .floorWD 6 2),
   (0x46291192, .movzD 6 2 9), (0x46291193, .movnD 6 2 9), (0x462011a0, .cvtSD 6 2), (0x462011a4, .cvtWD 6 2),
   (0x46041530, .cFS 5 2 4), (0x46041531, .cUnS 5 2 4), (0x46041532, .cEqS 5 2 4), (0x46041533, .cUeqS 5 2 4),
   (0x46041534, .cOltS 5 2 4), (0x46041535, .cUltS 5 2 4), (0x46041536, .cOleS 5 2 4), (0x46041537, .cUleS 5 2 4),
   (0x46041538, .cSfS 5 2 4), (0x46041539, .cNgleS 5 2 4), (0x4604153a, .cSeqS 5 2 4), (0x4604153b, .cNglS 5 2 4)] = true := by
  decide +kernel

theorem test_decode_floating_point_3 : decodesTo
  [(0x4604153c, .cLtS 5 2 4), (0x4604153d, .cNgeS 5 2 4), (0x4604153e, .cLeS 5 2 4), (0x4604153f, .cNgtS 5 2 4),
   (0x46241530, .cFD 5 2 4), (0x46241531, .cUnD 5 2 4), (0x46241532, .cEqD 5 2 4), (0x46241533, .cUeqD 5 2 4),
   (0x46241534, .cOltD 5 2 4), (0x46241535, .cUltD 5 2 4), (0x46241536, .cOleD 5 2 4), (0x46241537, .cUleD 5 2 4),
   (0x46241538, .cSfD 5 2 4), (0x46241539, .cNgleD 5 2 4), (0x4624153a, .cSeqD 5 2 4), (0x4624153b, .cNglD 5 2 4),
   (0x4624153c, .cLtD 5 2 4), (0x4624153d, .cNgeD 5 2 4), (0x4624153e, .cLeD 5 2 4), (0x4624153f, .cNgtD 5 2 4)] = true := by
  decide +kernel

theorem test_decode_named_only : decodesTo
  [(0x8909fedc, .lwl 9 0xfedc 8), (0x9909fedc, .lwr 9 0xfedc 8), (0xa909fedc, .swl 9 0xfedc 8),
   (0xb909fedc, .swr 9 0xfedc 8), (0xbd09fedc, .cache 9 0xfedc 8), (0xcd09fedc, .pref 9 0xfedc 8),
   (0xc909fedc, .lwc2 9 0xfedc 8), (0xd909fedc, .ldc2 9 0xfedc 8), (0xe909fedc, .swc2 9 0xfedc 8),
   (0xf909fedc, .sdc2 9 0xfedc 8), (0x0000000f, .sync)] = true := by
  decide +kernel

/-- Words that match no row (spec/95_test_vectors.md section 2.11, R98). -/
theorem test_decode_unlisted :
    ([0x00000001, 0x00000005, 0x0000000e, 0x00000035, 0x01095060, 0x3c290001, 0x04020000, 0x040d0000, 0x51090003, 0x70000002,
      0x7c000000, 0x9c000000, 0x44080000, 0x46001020, 0x46201021, 0x46800020, 0x45020003, 0x46041072, 0x42000019, 0x40086001,
      0x41000000, 0x0000004f, 0x1c010000, 0x4600100b, 0xffffffff] : List Word).all
        (fun w => decide (decode w = .error (.unlisted w))) = true := by decide +kernel

/-- Bytes are taken big-endian, and there must be four (R51, R80). -/
theorem test_decode_bytes : decodeBytes [0x01, 0x09, 0x50, 0x20] = .ok (.add 10 8 9) ∧
    decodeBytes [0x01, 0x09, 0x50] = .error .notOneWord := by decide +kernel

theorem test_decodeTableWord : decodeTableWord 32 0x01095020 = some (.add 10 8 9) ∧ decodeTableWord 32 0x46001020 = none := by
  decide +kernel

/-! ### Single steps (spec/95_test_vectors.md section 2, R360)

Each starts from the state after reset with some registers written, the word where the step fetches it. -/

/-- The state after reset with general registers written. -/
def start (regs : List (Reg × Word)) : State := regs.foldl (fun s p => s.writeX p.1 p.2) State.reset

/-- The state after reset with floating-point registers written. -/
def startF (regs : List (FReg × Word)) : State := regs.foldl (fun s p => s.writeF p.1 p.2) State.reset

/-- The state after reset with `x[8]` = 0x10000000 and the eight bytes of section 2.7 there. -/
def startM (regs : List (Reg × Word)) : State :=
  ((start ((8, 0x10000000) :: regs)).writeWord 0x10000000 0x11223344).writeWord 0x10000004 0x9c8001ff

/-- What is seen after one step, if there is a next state. -/
def afterStep {α : Type} (s : State) (f : State → α) : Option α :=
  match step s with
  | .next t => some (f t)
  | .fault _ => none
  | .refused _ => none

/-- What is seen after one step of a word. -/
def sees {α : Type} (w : Nat) (s : State) (f : State → α) : Option α := afterStep (s.withFetchWord 32 w) f

/-- `x[r]` after one step. -/
def gpr (w : Nat) (regs : List (Reg × Word)) (r : Reg) : Option Word := sees w (start regs) (·.readX r)

/-- `f[n]` after one step. -/
def fpr (w : Nat) (regs : List (FReg × Word)) (n : FReg) : Option Word := sees w (startF regs) (·.readF n)

/-- The code, `EPC` and `pc` after one step: an exception entry. -/
def entry (w : Nat) (s : State) : Option (BitVec 5 × Word × Word) := sees w s fun t => (t.cause.excCode, t.epc, t.pc)

/-- Where control is after one step: `pc`, `npc`. -/
def control (w : Nat) (s : State) : Option (Word × Word) := sees w s fun t => (t.pc, t.npc)

/-- The reason a step is refused. -/
def refusal (w : Nat) (s : State) : Option Refusal :=
  match step (s.withFetchWord 32 w) with
  | .next _ => none
  | .fault _ => none
  | .refused r => some r

/-- The entry of section 0 for an exception at 0x00400000. -/
abbrev at400000 (code : BitVec 5) : Option (BitVec 5 × Word × Word) := some (code, 0x00400000, 0x80000180)

theorem test_add : gpr 0x01095020 [(8, 0x7ffffffe), (9, 1)] 10 = some 0x7fffffff ∧
    entry 0x01095020 (start [(8, 0x7fffffff), (9, 1)]) = at400000 12 := by decide +kernel

theorem test_add_to_register_zero : entry 0x01090020 (start [(8, 0x7fffffff), (9, 1)]) = at400000 12 := by decide +kernel

theorem test_addi : gpr 0x21097fff [(8, 0x7fff8000)] 9 = some 0x7fffffff ∧
    entry 0x21097fff (start [(8, 0x7fff8001)]) = at400000 12 := by decide +kernel

theorem test_addiu : gpr 0x2509fffc [(8, 2)] 9 = some 0xfffffffe := by decide +kernel

theorem test_addu : gpr 0x01095021 [(8, 0x7fffffff), (9, 1)] 10 = some 0x80000000 := by decide +kernel

theorem test_sub : gpr 0x01095022 [(8, 5), (9, 7)] 10 = some 0xfffffffe ∧
    entry 0x01095022 (start [(8, 0x80000000), (9, 1)]) = at400000 12 := by decide +kernel

theorem test_subu : gpr 0x01095023 [(8, 0x80000000), (9, 1)] 10 = some 0x7fffffff := by decide +kernel

theorem test_logic :
    [0x01095024, 0x01095025, 0x01095026, 0x01095027].map (gpr · [(8, 0xff00ff00), (9, 0x0ff00ff0)] 10) =
      [some 0x0f000f00, some 0xfff0fff0, some 0xf0f0f0f0, some 0x000f000f] := by decide +kernel

theorem test_immediate_logic : gpr 0x3109ffff [(8, 0x12345678)] 9 = some 0x00005678 ∧
    gpr 0x35098000 [(8, 0x12340000)] 9 = some 0x12348000 ∧ gpr 0x3909ffff [(8, 0xffffffff)] 9 = some 0xffff0000 ∧
    gpr 0x3c09ffff [(9, 0x12345678)] 9 = some 0xffff0000 := by decide +kernel

theorem test_shifts : gpr 0x00095100 [(9, 0xf0000001)] 10 = some 0x00000010 ∧
    gpr 0x00095102 [(9, 0xf0000001)] 10 = some 0x0f000000 ∧ gpr 0x00095103 [(9, 0xf0000001)] 10 = some 0xff000000 := by
  decide +kernel

theorem test_variable_shifts : gpr 0x01095004 [(8, 0x24), (9, 1)] 10 = some 0x00000010 ∧
    gpr 0x01095006 [(8, 0x20), (9, 0x80000000)] 10 = some 0x80000000 ∧
    gpr 0x01095007 [(8, 0xffffffff), (9, 0x80000000)] 10 = some 0xffffffff := by decide +kernel

theorem test_conditional_moves : gpr 0x0109500a [(8, 0x1234), (9, 0), (10, 0x99)] 10 = some 0x1234 ∧
    gpr 0x0109500a [(8, 0x1234), (9, 1), (10, 0x99)] 10 = some 0x99 ∧
    gpr 0x0109500b [(8, 0x1234), (9, 0x80000000), (10, 0x99)] 10 = some 0x1234 ∧
    gpr 0x0109500b [(8, 0x1234), (9, 0), (10, 0x99)] 10 = some 0x99 := by decide +kernel

theorem test_comparisons : gpr 0x0109502a [(8, 0x80000000), (9, 0x7fffffff)] 10 = some 1 ∧
    gpr 0x0109502b [(8, 0x80000000), (9, 0x7fffffff)] 10 = some 0 ∧ gpr 0x2909ffff [(8, 0xfffffffe)] 9 = some 1 ∧
    gpr 0x2d098000 [(8, 0x8000)] 9 = some 1 := by decide +kernel

theorem test_branches : control 0x11090003 (start [(8, 5), (9, 5)]) = some (0x00400004, 0x00400010) ∧
    control 0x15090003 (start [(8, 5), (9, 5)]) = some (0x00400004, 0x00400008) ∧
    control 0x05010003 (start []) = some (0x00400004, 0x00400010) ∧
    control 0x1d000003 (start []) = some (0x00400004, 0x00400008) ∧
    control 0x19000003 (start []) = some (0x00400004, 0x00400010) ∧
    control 0x05000003 (start []) = some (0x00400004, 0x00400008) := by decide +kernel

theorem test_linking_branches : gpr 0x05110003 [(8, 0xffffffff)] 31 = some 0x00400008 ∧
    gpr 0x05100003 [(8, 0x80000000)] 31 = some 0x00400008 ∧ refusal 0x07f10003 (start []) = some .linkClash := by
  decide +kernel

theorem test_flag_branches : control 0x451c0003 (State.reset.writeCc 0 true) = some (0x00400004, 0x00400010) ∧
    control 0x45050003 (State.reset.writeCc 1 true) = some (0x00400004, 0x00400010) := by decide +kernel

theorem test_jumps : control 0x08100008 (start []) = some (0x00400004, 0x00400020) ∧
    gpr 0x0c100008 [] 31 = some 0x00400008 ∧
    control 0x01000008 (start [(8, 0x00400102)]) = some (0x00400004, 0x00400102) ∧
    gpr 0x01005009 [(8, 0x00400020)] 10 = some 0x00400008 ∧ refusal 0x01004009 (start []) = some .linkClash := by
  decide +kernel

/-- The region of a jump comes from `pc + 4` (R191). -/
theorem test_jump_region :
    control 0x08000004 { State.reset with pc := 0x0ffffffc, npc := 0x10000000 } = some (0x10000000, 0x10000010) := by
  decide +kernel

/-- A branch in a delay slot (R30). -/
theorem test_transfer_in_slot : refusal 0x08100008 { State.reset with bd := true } = some .transferInDelaySlot := by
  decide +kernel

theorem test_traps : [0x01090034, 0x01090036, 0x01090030, 0x01090031, 0x01090032, 0x01090033].map
      (entry · (start [(8, 0xffffffff), (9, 1)])) =
    [some (0, 0, 0x00400004), at400000 13, some (0, 0, 0x00400004), at400000 13, at400000 13, some (0, 0, 0x00400004)] := by
  decide +kernel

theorem test_immediate_traps : entry 0x050cffff (start [(8, 0xffffffff)]) = at400000 13 ∧
    entry 0x050effff (start [(8, 0x0000ffff)]) = at400000 13 := by decide +kernel

theorem test_syscall_break : entry 0x03ffffcc (start []) = at400000 8 ∧ entry 0x0007000d (start []) = at400000 9 := by
  decide +kernel

/-- The block start state of section 2.6: kernel mode because `EL` = 1. -/
def startC : State :=
  { State.reset with status := Status.ofWord 0x0000ff13, epc := 0x00400010, cause := ⟨false, 12⟩, badVAddr := 0x00001234 }

theorem test_mfc0 : [0x40086000, 0x40086800, 0x40087000, 0x40084000].map (sees · startC (·.readX 8)) =
    [some 0x0000ff13, some 0x00000030, some 0x00400010, some 0x00001234] := by decide +kernel

theorem test_mtc0 : sees 0x40886000 (startC.writeX 8 0xffffffff) (·.status.toWord) = some 0x0000ff13 ∧
    sees 0x40886800 (startC.writeX 8 0xffffffff) (·.cause) = some ⟨false, 12⟩ := by decide +kernel

theorem test_eret : sees 0x42000018 startC (fun t => (t.pc, t.npc, t.status.toWord)) =
    some (0x00400010, 0x00400014, 0x0000ff11) := by decide +kernel

/-- User mode (R351). -/
theorem test_user_mode : [0x40086000, 0x40886000, 0x42000018].map
      (sees · { State.reset with status := Status.ofWord 0x10 } fun t => (t.cause.excCode, t.status.toWord)) =
    [some (11, 0x12), some (11, 0x12), some (11, 0x12)] := by decide +kernel

theorem test_loads : [0x81090004, 0x91090004, 0x85090004, 0x95090004, 0x8d090004].map (sees · (startM []) (·.readX 9)) =
    [some 0xffffff9c, some 0x0000009c, some 0xffff9c80, some 0x00009c80, some 0x9c8001ff] := by decide +kernel

theorem test_misaligned_loads : [0x85090005, 0x95090003, 0x8d090002, 0xc1090001].map
      (sees · (startM []) fun t => (t.cause.excCode, t.badVAddr)) =
    [some (4, 0x10000005), some (4, 0x10000003), some (4, 0x10000002), some (4, 0x10000001)] := by decide +kernel

theorem test_stores : [0xa1090004, 0xa5090006, 0xad090004].map (sees · (startM [(9, 0x12345678)]) (·.readWord 0x10000004)) =
    [some 0x788001ff, some 0x9c805678, some 0x12345678] := by decide +kernel

theorem test_misaligned_stores : [0xa5090005, 0xad090002, 0xe1090001].map
      (sees · (startM []) fun t => (t.cause.excCode, t.badVAddr)) =
    [some (5, 0x10000005), some (5, 0x10000002), some (5, 0x10000001)] := by decide +kernel

theorem test_ll : sees 0xc1090004 (startM []) (fun t => (t.readX 9, t.llBit, t.llAddr)) = some (0x9c8001ff, true, 0x10000004) := by
  decide +kernel

theorem test_sc : sees 0xe1090004 (startM [(9, 7)]) (fun t => (t.readX 9, t.readWord 0x10000004)) = some (0, 0x9c8001ff) ∧
    sees 0xe1090004 { startM [(9, 7)] with llBit := true, llAddr := 0x10000004 }
      (fun t => (t.readX 9, t.readWord 0x10000004, t.llBit)) = some (1, 7, false) := by decide +kernel

theorem test_multiply : [0x01090018, 0x01090019].map
      (sees · (start [(8, 0xffffffff), (9, 2)]) fun t => (t.hi, t.lo)) =
    [some (0xffffffff, 0xfffffffe), some (0x00000001, 0xfffffffe)] := by decide +kernel

theorem test_divide : [0x0109001a, 0x0109001b].map
      (sees · (start [(8, 0xfffffff9), (9, 2)]) fun t => (t.hi, t.lo)) =
    [some (0xffffffff, 0xfffffffd), some (0x00000001, 0x7ffffffc)] ∧
    sees 0x0109001a (start [(8, 0x80000000), (9, 0xffffffff)]) (fun t => (t.hi, t.lo)) = some (0, 0x80000000) := by
  decide +kernel

theorem test_hi_lo_moves : sees 0x00005010 { State.reset with hi := 0xaaaa5555 } (·.readX 10) = some 0xaaaa5555 ∧
    sees 0x00005012 { State.reset with lo := 0x5555aaaa } (·.readX 10) = some 0x5555aaaa ∧
    sees 0x01000011 (start [(8, 0x1234)]) (fun t => (t.hi, t.lo)) = some (0x1234, 0) ∧
    sees 0x01000013 (start [(8, 0x1234)]) (fun t => (t.hi, t.lo)) = some (0, 0x1234) := by decide +kernel

theorem test_single_arithmetic : fpr 0x46041000 [(2, 0xbf800000), (4, 0x3fc00000)] 0 = some 0x3f000000 ∧
    fpr 0x46041001 [(2, 0x3f800000), (4, 0x40400000)] 0 = some 0xc0000000 ∧
    fpr 0x46041002 [(2, 0xbfc00000), (4, 0x3fc00000)] 0 = some 0xc0100000 ∧
    fpr 0x46041003 [(2, 0x3f800000), (4, 0x40800000)] 0 = some 0x3e800000 := by decide +kernel

/-- The high and low words of `D(0)` after one step. -/
def dbl (w : Nat) (regs : List (FReg × Word)) : Option (Word × Word) := sees w (startF regs) fun t => (t.readF 0, t.readF 1)

theorem test_double_arithmetic : dbl 0x46241000 [(2, 0x3ff00000), (4, 0x3cb00000)] = some (0x3ff00000, 1) ∧
    dbl 0x46241001 [(2, 0x3ff00000), (4, 0x40000000)] = some (0xbff00000, 0) ∧
    dbl 0x46241002 [(2, 0x3ff80000), (4, 0x40000000)] = some (0x40080000, 0) ∧
    dbl 0x46241003 [(2, 0x3ff00000), (4, 0x40200000)] = some (0x3fc00000, 0) := by decide +kernel

theorem test_odd_double : [0x46241040, 0x46241800, 0x46251000, 0xd5030000, 0xf5030000, 0x4620180d].map (refusal · (start [])) =
    List.replicate 6 (some .oddDouble) := by decide +kernel

theorem test_square_roots : fpr 0x46001004 [(2, 0x40100000)] 0 = some 0x3fc00000 ∧
    dbl 0x46201004 [(2, 0x40220000)] = some (0x40080000, 0) := by decide +kernel

theorem test_sign_operations : fpr 0x46001005 [(2, 0xc0400000)] 0 = some 0x40400000 ∧
    dbl 0x46201005 [(2, 0xbff80000), (3, 5)] = some (0x3ff80000, 5) ∧ fpr 0x46001007 [(2, 0x3f800000)] 0 = some 0xbf800000 ∧
    dbl 0x46201007 [(2, 0x3ff80000)] = some (0xbff80000, 0) := by decide +kernel

theorem test_moves : fpr 0x46001006 [(2, 0x7fc00001)] 0 = some 0x7fc00001 ∧
    dbl 0x46201006 [(2, 0x12345678), (3, 0x9abcdef0)] = some (0x12345678, 0x9abcdef0) ∧
    fpr 0x46081012 [(2, 0x11111111), (0, 0x22222222)] 0 = some 0x11111111 ∧
    fpr 0x46081013 [(2, 0x11111111), (0, 0x22222222)] 0 = some 0x22222222 := by decide +kernel

theorem test_double_conditional_moves : dbl 0x46201012 [(2, 0x12345678), (3, 0x9abcdef0)] = some (0x12345678, 0x9abcdef0) ∧
    dbl 0x46281013 [(2, 0x12345678), (3, 0x9abcdef0)] = some (0, 0) := by decide +kernel

theorem test_round_single : [0x4600100c, 0x4600100d, 0x4600100e, 0x4600100f].map (fpr · [(2, 0xc0200000)] 0) =
    [some 0xfffffffe, some 0xfffffffe, some 0xfffffffe, some 0xfffffffd] := by decide +kernel

theorem test_round_double : [0x4620100c, 0x4620100d, 0x4620100e, 0x4620100f].map (fpr · [(2, 0x40040000)] 0) =
    [some 2, some 2, some 3, some 2] := by decide +kernel

theorem test_conversions : dbl 0x46001021 [(2, 0xbe200000)] = some (0xbfc40000, 0) ∧
    fpr 0x46201020 [(2, 0x3ff80000)] 0 = some 0x3fc00000 ∧ fpr 0x46001024 [(2, 0x40e00000)] 0 = some 7 ∧
    fpr 0x46201024 [(2, 0xc0080000)] 0 = some 0xfffffffd := by decide +kernel

/-- The sixteen conditions on 1.0 < 2.0, singles and doubles (R270). -/
def conditions (fmt : Nat) (regs : List (FReg × Word)) : List (Option Bool) :=
  (List.range 16).map fun c => sees (0x46001030 + fmt * 2 ^ 21 + 4 * 2 ^ 16 + c) (startF regs) (·.readCc 0)

theorem test_compare_less_single : conditions 0 [(2, 0x3f800000), (4, 0x40000000)] =
    [false, false, false, false, true, true, true, true, false, false, false, false, true, true, true, true].map some := by
  decide +kernel

theorem test_compare_equal_double : conditions 1 [(2, 0x3ff00000), (4, 0x3ff00000)] =
    [false, false, true, true, false, false, true, true, false, false, true, true, false, false, true, true].map some := by
  decide +kernel

theorem test_float_loads : sees 0xc5090004 (startM []) (·.readF 9) = some 0x9c8001ff ∧
    sees 0xd5020000 (startM []) (fun t => (t.readF 2, t.readF 3)) = some (0x11223344, 0x9c8001ff) ∧
    sees 0xd5020004 (startM []) (fun t => (t.cause.excCode, t.badVAddr)) = some (4, 0x10000004) := by decide +kernel

theorem test_float_stores : sees 0xe5090004 ((startM []).writeF 9 0xcafef00d) (·.readWord 0x10000004) = some 0xcafef00d ∧
    sees 0xf5020000 (((startM []).writeF 2 0x01020304).writeF 3 0x05060708)
      (fun t => (t.readWord 0x10000000, t.readWord 0x10000004)) = some (0x01020304, 0x05060708) ∧
    sees 0xf5020004 (startM []) (fun t => (t.cause.excCode, t.badVAddr)) = some (5, 0x10000004) := by decide +kernel

theorem test_named_only : [0x89090000, 0x99090003, 0xa9090000, 0xb9090003, 0xbd000000, 0xcd000000, 0xc9090000, 0xd9090000,
      0xe9090000, 0xf9090000].map (refusal · (start [])) =
    [.unalignedPieceUndefined, .unalignedPieceUndefined, .unalignedPieceUndefined, .unalignedPieceUndefined, .cacheUndefined,
      .prefetchUndefined, .coprocessor2Undefined, .coprocessor2Undefined, .coprocessor2Undefined,
      .coprocessor2Undefined].map some := by decide +kernel

theorem test_sync : control 0x0000000f (start []) = some (0x00400004, 0x00400008) := by decide +kernel

/-- An unlisted word (R98), and the same in a delay slot (R330). -/
theorem test_unlisted : entry 0x01095060 (start []) = at400000 10 ∧
    entry 0x00000001 { State.reset with pc := 0x00400004, npc := 0x00400010, bd := true } = at400000 10 := by decide +kernel

/-- An interrupt that arrives at a delay slot names the branch (R341, section 2.12). -/
theorem test_interrupt_in_slot :
    sees 0 { start [] with pc := 0x00400034, npc := 0x00400040, bd := true, irq := [1], status := Status.ofWord 0x101 }
      (fun t => (t.epc, t.cause, t.pc)) = some (0x00400030, ⟨true, 0⟩, 0x80000180) := by
  decide +kernel

/-- A nested exception keeps `EPC` and `BD` (R337, section 2.12). -/
theorem test_nested_exception : sees 0x8d090001 { startM [] with status := Status.ofWord 2, epc := 0x00400010, cause := ⟨true, 8⟩ }
      (fun t => (t.epc, t.cause, t.badVAddr)) = some (0x00400010, ⟨true, 4⟩, 0x10000001) := by decide +kernel

/-- Memory backed below 0x20000000 only. -/
def small (s : State) : State := { s with params := { s.params with memMap := [⟨0, 0x20000000⟩] } }

theorem test_unbacked : [0x8d090000, 0xad090000].map (sees · (small (start [(8, 0x20000000)])) fun t => (t.cause.excCode, t.badVAddr)) =
    [some (7, 0), some (7, 0)] ∧
    sees 0x8d090000 (small (start [(8, 0x20000001)])) (fun t => (t.cause.excCode, t.badVAddr)) = some (4, 0x20000001) := by
  decide +kernel

/-- A fetch from a misaligned and from an unbacked address (R28, R57). -/
theorem test_fetch : sees 0 { State.reset with pc := 0x00400022, npc := 0x00400026 } (fun t => (t.cause.excCode, t.epc, t.badVAddr)) =
    some (4, 0x00400022, 0x00400022) ∧
    sees 0 { small State.reset with pc := 0x20000000, npc := 0x20000004 } (fun t => (t.cause.excCode, t.epc)) =
      some (6, 0x20000000) := by decide +kernel

/-! ### Witnesses

For each statement of Certificates/Slice0/Obligations.lean with hypotheses, or with clauses that divide the states or operands:
a state and operands that meet them, at the boundaries of each clause. -/

/-- User mode (R350). -/
def userState : State := { State.reset with status := { State.reset.status with um := true } }

/-- User mode, with `USER_SEGMENT_CHECK` on (R63). -/
def checkedState : State := { userState with params := { userState.params with userSegmentCheck := true } }

/-- In a delay slot. -/
def slotState : State := { State.reset with bd := true }

/-- Without a floating-point unit (R256). -/
def noUnitState : State := { State.reset with params := { State.reset.params with hasFpu := false } }

theorem witness_RegisterArithmeticAndLogic : (start [(9, 0)]).readX 9 = 0#32 ∧ ¬(start [(9, 1)]).readX 9 = 0#32 := by
  decide +kernel

/-- The sum of `x` and `y` is the last in range, and one more is not; so below. -/
theorem witness_OverflowArithmetic :
    (0x7ffffffe#32).toInt + (1#32).toInt = 2 ^ 31 - 1 ∧ (0x7fffffff#32).toInt + (1#32).toInt = 2 ^ 31 ∧
    (0x80000001#32).toInt + (0xffffffff#32).toInt = -2 ^ 31 ∧ (0x80000000#32).toInt + (0xffffffff#32).toInt = -2 ^ 31 - 1 ∧
    (0x7fff8000#32).toInt + (0x7fff#16).toInt = 2 ^ 31 - 1 ∧ (0x7fff8001#32).toInt + (0x7fff#16).toInt = 2 ^ 31 ∧
    (0x7ffffffe#32).toInt - (0xffffffff#32).toInt = 2 ^ 31 - 1 ∧ (0x7fffffff#32).toInt - (0xffffffff#32).toInt = 2 ^ 31 ∧
    (0x80000001#32).toInt - (1#32).toInt = -2 ^ 31 ∧ (0x80000000#32).toInt - (1#32).toInt = -2 ^ 31 - 1 := by decide

theorem witness_OverflowIsASignChange : addOverflows 0x7fffffff 1 = true ∧ addOverflows 0x7ffffffe 1 = false ∧
    subOverflows 0x80000000 1 = true ∧ subOverflows 0x80000001 1 = false := by decide

/-- Both ways of each condition, at its boundary. -/
theorem witness_ConditionalBranches : State.reset.bd = false ∧ (start [(8, 0)]).bd = false ∧
    (start [(8, 0)]).readX 8 = (start [(8, 0)]).readX 9 ∧ (start [(8, 1)]).readX 8 ≠ (start [(8, 1)]).readX 9 ∧
    0 ≤ ((start [(8, 0)]).readX 8).toInt ∧ ((start [(8, 0xffffffff)]).readX 8).toInt < 0 ∧
    0 < ((start [(8, 1)]).readX 8).toInt ∧ ((start [(8, 0)]).readX 8).toInt ≤ 0 := by decide +kernel

theorem witness_LinkingBranches : State.reset.bd = false ∧ (31#5 : Reg) = 31#5 ∧ (30#5 : Reg) ≠ 31#5 := by decide

theorem witness_ConditionFlagBranches : State.reset.params.hasFpu = true ∧ State.reset.bd = false ∧
    noUnitState.params.hasFpu = false ∧ State.reset.readCc 7 = false ∧ (State.reset.writeCc 7 true).readCc 7 = true := by
  decide +kernel

theorem witness_Jumps : State.reset.bd = false ∧ (8#5 : Reg) = 8#5 ∧ (9#5 : Reg) ≠ 8#5 := by decide

theorem witness_TransfersRefusedInDelaySlot : (Instr.jr 8).transfersControl = true ∧ slotState.bd = true ∧
    slotState.params.hasFpu = true := by decide

theorem witness_TransfersRefusedInDelaySlot_no_unit :
    ∀ cc imm, Instr.jr 8 ≠ .bc1f cc imm ∧ Instr.jr 8 ≠ .bc1t cc imm := by
  intro cc imm; exact ⟨nofun, nofun⟩

theorem witness_TrapsSyscallAndBreak : State.reset.params.syscallIsHostCall = false ∧
    { State.reset.params with syscallIsHostCall := true }.syscallIsHostCall = true ∧
    ((start [(8, 1)]).readX 8).toInt ≥ ((start [(9, 0)]).readX 9).toInt ∧
    ((start [(8, 0xffffffff)]).readX 8).toInt < ((start [(9, 0)]).readX 9).toInt := by decide +kernel

/-- The mode of `MoveFromControl`, `MoveToControl`, `ExceptionReturn`. -/
theorem witness_modes : InUserMode userState ∧ ¬InUserMode State.reset ∧
    ¬InUserMode { userState with status := { userState.status with el := true } } := by decide

theorem witness_ExceptionReturn : slotState.bd = true ∧ State.reset.bd = false := by decide

/-- The clauses of `Accesses`: misaligned by one, by the last; aligned; barred from 2^31 on in user mode; backed to the end of a
span and not past it, also for the last of several bytes. -/
theorem witness_Accesses : (1#32).toNat % 4 ≠ 0 ∧ (3#32).toNat % 4 ≠ 0 ∧ (4#32).toNat % 4 = 0 ∧ (4#32).toNat % 8 ≠ 0 ∧
    (8#32).toNat % 8 = 0 ∧ (0x80000000#32).toNat % 4 = 0 ∧ Barred checkedState 0x80000000 ∧
    ¬Barred checkedState 0x7fffffff ∧ ¬Barred { checkedState with status := State.reset.status } 0x80000000 := by decide

theorem witness_Accesses_backed : (small State.reset).backed 0x1ffffffc 4 = true ∧ (small State.reset).backed 0x20000000 1 = false ∧
    (small State.reset).backed 0x1ffffffe 4 = false ∧ State.reset.backed 0xfffffffc 8 = true := by decide +kernel

/-- `backed` is `Backed`: the clause itself, met and not met. -/
theorem witness_Backed : Backed (small State.reset) 0x1fffffff 1 ∧ ¬Backed (small State.reset) 0x20000000 1 := by
  refine ⟨fun i hi => ⟨⟨0, 0x20000000⟩, by decide, ?_⟩, fun h => ?_⟩
  · obtain rfl : i = 0 := by omega
    decide
  · obtain ⟨r, hr, h1, h2⟩ := h 0 (by decide)
    obtain rfl : r = ⟨0, 0x20000000⟩ := by simpa [small] using hr
    exact absurd h2 (by decide)

/-- The clauses of `StoreConditional`: not linked, linked elsewhere, linked here; `SC_MAY_FAIL` off and on. -/
theorem witness_StoreConditional : State.reset.llBit = false ∧
    (let s := { State.reset with llBit := true, llAddr := 0x10000000 }
     s.llBit = true ∧ dataAddr s 0 0 ≠ s.llAddr ∧ dataAddr (s.writeX 8 0x10000000) 8 0 = s.llAddr) ∧
    State.reset.params.scMayFail = false ∧ { State.reset.params with scMayFail := true }.scMayFail = true := by decide +kernel

theorem witness_Divides : (start [(9, 0)]).readX 9 = 0#32 ∧
    ((start [(8, 0x80000000), (9, 0xffffffff)]).readX 8 = 0x80000000#32 ∧
      (start [(8, 0x80000000), (9, 0xffffffff)]).readX 9 = 0xffffffff#32) ∧
    ¬((start [(8, 0x80000001), (9, 0xffffffff)]).readX 8 = 0x80000000#32) ∧ (start [(9, 1)]).readX 9 ≠ 0#32 := by
  decide +kernel

/-! The values of some patterns (R255). -/

theorem value_single {v : Word} (n : Bool) (e f : Nat) (hn : Fmt.single.neg v.toNat = n) (he : Fmt.single.expField v.toNat = e)
    (hf : Fmt.single.fracField v.toNat = f) :
    valueS v = (if n then -1 else 1) * (1 + (f : ℚ) / 2 ^ 23) * (2 : ℚ) ^ ((e : ℤ) - 127) := by
  subst hn he hf; rfl

theorem value_double {v : DWord} (n : Bool) (e f : Nat) (hn : Fmt.double.neg v.toNat = n) (he : Fmt.double.expField v.toNat = e)
    (hf : Fmt.double.fracField v.toNat = f) :
    valueD v = (if n then -1 else 1) * (1 + (f : ℚ) / 2 ^ 52) * (2 : ℚ) ^ ((e : ℤ) - 1023) := by
  subst hn he hf; rfl

theorem single_one : valueS 0x3f800000 = 1 := by
  rw [value_single false 127 0 (by decide) (by decide) (by decide)]; norm_num

theorem single_two : valueS 0x40000000 = 2 := by
  rw [value_single false 128 0 (by decide) (by decide) (by decide)]; norm_num

theorem single_four : valueS 0x40800000 = 4 := by
  rw [value_single false 129 0 (by decide) (by decide) (by decide)]; norm_num

/-- -2^31, the least 32-bit integer. -/
theorem single_least : valueS 0xcf000000 = -2 ^ 31 := by
  rw [value_single true 158 0 (by decide) (by decide) (by decide)]; norm_num

/-- 2.5, a tie. -/
theorem single_tie : valueS 0x40200000 = 5 / 2 := by
  rw [value_single false 128 2097152 (by decide) (by decide) (by decide)]; norm_num

theorem double_one : valueD 0x3ff0000000000000 = 1 := by
  rw [value_double false 1023 0 (by decide) (by decide) (by decide)]; norm_num

theorem double_two : valueD 0x4000000000000000 = 2 := by
  rw [value_double false 1024 0 (by decide) (by decide) (by decide)]; norm_num

theorem double_four : valueD 0x4010000000000000 = 4 := by
  rw [value_double false 1025 0 (by decide) (by decide) (by decide)]; norm_num

/-- 2^31 - 1, the greatest 32-bit integer. -/
theorem double_greatest : valueD 0x41dfffffffc00000 = 2 ^ 31 - 1 := by
  rw [value_double false 1053 4503599623176192 (by decide +kernel) (by decide +kernel) (by decide +kernel)]; norm_num

/-- 2.5, a tie. -/
theorem double_tie : valueD 0x4004000000000000 = 5 / 2 := by
  rw [value_double false 1024 1125899906842624 (by decide) (by decide) (by decide)]; norm_num

/-- The unit is present, and the registers of a double are even, at both ends; 30 is the last even number. -/
theorem witness_doubles : State.reset.params.hasFpu = true ∧ IsEven 0 ∧ IsEven 30 ∧ ¬IsEven 31 := by decide

/-- Law 1 of each operation: 1 + 1 = 2, 2 - 1 = 1, 2 * 2 = 4, 4 / 2 = 2. -/
theorem witness_SingleArithmetic : normalS 0x3f800000 ∧ normalS 0x40000000 ∧ normalS 0x40800000 ∧
    valueS 0x3f800000 + valueS 0x3f800000 = valueS 0x40000000 ∧ valueS 0x40000000 - valueS 0x3f800000 = valueS 0x3f800000 ∧
    valueS 0x40000000 * valueS 0x40000000 = valueS 0x40800000 ∧ valueS 0x40800000 / valueS 0x40000000 = valueS 0x40000000 := by
  refine ⟨by decide, by decide, by decide, ?_⟩
  rw [single_one, single_two, single_four]; norm_num

/-- The normalised patterns of least and greatest `Exponent`, and the first on each side that is none (R255). -/
theorem witness_normal : normalS 0x00800000 ∧ normalS 0x7f7fffff ∧ ¬normalS 0x007fffff ∧ ¬normalS 0x7f800000 ∧
    normalD 0x0010000000000000 ∧ normalD 0x7fefffffffffffff ∧ ¬normalD 0x000fffffffffffff ∧ ¬normalD 0x7ff0000000000000 := by
  decide +kernel

theorem witness_DoubleArithmetic : normalD 0x3ff0000000000000 ∧ normalD 0x4000000000000000 ∧ normalD 0x4010000000000000 ∧
    valueD 0x3ff0000000000000 + valueD 0x3ff0000000000000 = valueD 0x4000000000000000 ∧
    valueD 0x4000000000000000 - valueD 0x3ff0000000000000 = valueD 0x3ff0000000000000 ∧
    valueD 0x4000000000000000 * valueD 0x4000000000000000 = valueD 0x4010000000000000 ∧
    valueD 0x4010000000000000 / valueD 0x4000000000000000 = valueD 0x4000000000000000 := by
  refine ⟨by decide +kernel, by decide +kernel, by decide +kernel, ?_⟩
  rw [double_one, double_two, double_four]; norm_num

theorem witness_SquareRoots : normalS 0x40800000 ∧ normalS 0x40000000 ∧ 0 < valueS 0x40000000 ∧
    valueS 0x40000000 * valueS 0x40000000 = valueS 0x40800000 ∧ normalD 0x4010000000000000 ∧ normalD 0x4000000000000000 ∧
    0 < valueD 0x4000000000000000 ∧ valueD 0x4000000000000000 * valueD 0x4000000000000000 = valueD 0x4010000000000000 := by
  refine ⟨by decide, by decide, ?_, ?_, by decide +kernel, by decide +kernel, ?_, ?_⟩ <;>
    simp only [single_two, single_four, double_two, double_four] <;> norm_num

/-- Infinity is no NaN, the next pattern is one. -/
theorem witness_AbsoluteValueAndNegation : ¬NanS 0x7f800000 ∧ NanS 0x7f800001 ∧ ¬NanD 0xfff0000000000000 ∧
    NanD 0xfff0000000000001 := by decide

theorem witness_FloatingPointMoves : State.reset.params.hasFpu = true ∧ (start [(8, 0)]).readX 8 = 0#32 ∧
    ¬(start [(8, 1)]).readX 8 = 0#32 := by decide +kernel

/-- Law 3 at a tie and at both ends of the range of the integers, and on both zeros. -/
theorem witness_Roundings : normalS 0x40200000 ∧ NearestEven (valueS 0x40200000) 2 ∧ 2 = towardZero (valueS 0x40200000) ∧
    3 = ⌈valueS 0x40200000⌉ ∧ 2 = ⌊valueS 0x40200000⌋ ∧ normalS 0xcf000000 ∧ NearestEven (valueS 0xcf000000) (-2 ^ 31) ∧
    Fmt.single.zero (0#32).toNat = true ∧ Fmt.single.zero (0x80000000#32).toNat = true := by
  have c : ⌈(5 / 2 : ℚ)⌉ = 3 := by rw [Int.ceil_eq_iff]; norm_num
  have f : ⌊(5 / 2 : ℚ)⌋ = 2 := by rw [Int.floor_eq_iff]; norm_num
  refine ⟨by decide, ?_, ?_, ?_, ?_, by decide, ?_, by decide, by decide⟩
  · rw [single_tie]; right; norm_num [abs]
  · rw [single_tie, towardZero, if_pos (by norm_num), f]
  · rw [single_tie, c]
  · rw [single_tie, f]
  · rw [single_least]; left; norm_num

theorem witness_Roundings_double : normalD 0x4004000000000000 ∧ NearestEven (valueD 0x4004000000000000) 2 ∧
    normalD 0x41dfffffffc00000 ∧ 2 ^ 31 - 1 = ⌊valueD 0x41dfffffffc00000⌋ ∧
    Fmt.double.zero (0#64).toNat = true ∧ Fmt.double.zero (0x8000000000000000#64).toNat = true := by
  refine ⟨by decide +kernel, ?_, by decide +kernel, ?_, by decide, by decide⟩
  · rw [double_tie]; right; norm_num [abs]
  · rw [double_greatest, eq_comm, Int.floor_eq_iff]; norm_num

theorem witness_Conversions : normalS 0x3f800000 ∧ normalD 0x3ff0000000000000 ∧ valueD 0x3ff0000000000000 = valueS 0x3f800000 ∧
    valueS 0xcf000000 = ((-2 ^ 31 : ℤ) : ℚ) ∧ normalS 0xcf000000 ∧ valueD 0x41dfffffffc00000 = ((2 ^ 31 - 1 : ℤ) : ℚ) ∧
    normalD 0x41dfffffffc00000 := by
  refine ⟨by decide, by decide +kernel, ?_, ?_, by decide, ?_, by decide +kernel⟩
  · rw [double_one, single_one]
  · rw [single_least]; norm_num
  · rw [double_greatest]; norm_num

/-- Less, equal and greater. -/
theorem witness_Compares : normalS 0x3f800000 ∧ normalS 0x40000000 ∧ valueS 0x3f800000 < valueS 0x40000000 ∧
    normalD 0x3ff0000000000000 ∧ normalD 0x4000000000000000 ∧ valueD 0x3ff0000000000000 < valueD 0x4000000000000000 ∧
    CondTrue 0xc 1 2 ∧ ¬CondTrue 0xc 2 2 ∧ CondTrue 0x2 2 2 ∧ ¬CondTrue 0xf 2 1 := by
  refine ⟨by decide, by decide, ?_, by decide +kernel, by decide +kernel, ?_, .inl ⟨by decide, by norm_num⟩, ?_,
    .inr ⟨by decide, rfl⟩, ?_⟩
  · rw [single_one, single_two]; norm_num
  · rw [double_one, double_two]; norm_num
  · rintro (⟨-, h⟩ | ⟨h, -⟩)
    · norm_num at h
    · exact absurd h (by decide)
  · rintro (⟨-, h⟩ | ⟨-, h⟩) <;> norm_num at h

theorem witness_OddDoublesRefused : State.reset.params.hasFpu = true ∧ ∃ n ∈ (Instr.addD 1 2 4).doubleRegs, ¬IsEven n := by
  exact ⟨rfl, 1, by decide, by decide⟩

/-- A listed word, an unlisted one, and one with another opcode of the family. -/
theorem witness_AbsentUnitRaises : noUnitState.params.hasFpu = false ∧ coprocessor1Word 0x46241000 = true ∧
    coprocessor1Word 0x46001020 = true ∧ coprocessor1Word 0xc5090004 = true ∧ coprocessor1Word 0x8d090004 = false := by decide

theorem witness_SyncAndPrefetch : State.reset.params.prefIsNoOp = false ∧
    { State.reset.params with prefIsNoOp := true }.prefIsNoOp = true := by decide

theorem witness_UnlistedWords : (∀ row ∈ opcodeTable, 0x01095060#32 &&& row.mask ≠ row.pattern) ∧
    (∀ row ∈ opcodeTable, 0x46001020#32 &&& row.mask ≠ row.pattern) ∧ coprocessor1Word 0x01095060 = false ∧
    coprocessor1Word 0x46001020 = true ∧ State.reset.params.hasFpu = true ∧ State.reset.params.unlisted = .ri ∧
    { State.reset.params with unlisted := .refuse }.unlisted = .refuse := by decide +kernel

theorem witness_DecodingFollowsTheTable : (⟨"add", 0xfc0007ff, 0x00000020⟩ : OpcodeRow) ∈ opcodeTable ∧
    0x01095020#32 &&& 0xfc0007ff#32 = 0x00000020#32 ∧ decode 0x01095020 = .ok (.add 10 8 9) := by decide +kernel

theorem witness_EncodeOfDecode : decode 0x01095020 = .ok (.add 10 8 9) := by decide +kernel

/-- An exception that changes `Cause`, and one that changes `BadVAddr`. -/
theorem witness_ExceptionsArePrecise : (∃ t, exec (.brk 0) State.reset = .next t ∧ t.cause ≠ State.reset.cause) ∧
    ∃ t, exec (.lw 9 1 0) State.reset = .next t ∧ t.badVAddr ≠ State.reset.badVAddr :=
  ⟨⟨_, rfl, by decide⟩, _, rfl, by decide⟩

theorem witness_DelaySlotExceptionNamesTheBranch : State.reset.bd = false ∧ State.reset.npc = State.reset.pc + 4#32 ∧
    ∃ t, exec (.j 4) State.reset = .next t ∧ t.bd = true ∧ t.status.el = false :=
  ⟨rfl, rfl, _, rfl, rfl, rfl⟩

/-- Line 7 asserted and unmasked, interrupts on. -/
def interruptedState : State := { State.reset with status := ⟨0x80, false, false, true⟩, irq := [0x80] }

/-- Every condition of R340 met, and each one alone not met. -/
theorem witness_InterruptsAreTaken : Takeable interruptedState ∧
    ¬Takeable { interruptedState with status := ⟨0x80, false, false, false⟩ } ∧
    ¬Takeable { interruptedState with status := ⟨0x80, false, true, true⟩ } ∧
    ¬Takeable { interruptedState with irq := [0x40] } ∧ ¬Takeable { interruptedState with irq := [] } := by decide

/-- In the same states a step enters the interrupt, or runs the word at `pc`, which is `nop`. -/
theorem test_step_takes_interrupt :
    afterStep interruptedState (fun t => (t.cause.excCode, t.epc, t.pc, t.irq)) =
      some (0, 0x00400000, 0x80000180, []) ∧
    afterStep { interruptedState with irq := [0x40] } (fun t => (t.pc, t.irq)) =
      some (0x00400004, []) := by decide +kernel

/-- `pc` at the first barred address; at the first address past the backed span; at a word whose last byte only is past it. -/
def barredPcState : State := { checkedState with pc := 0x80000000 }
def unbackedPcState : State := { small State.reset with pc := 0x20000000 }
def partlyBackedPcState : State := { State.reset with pc := 8, params := { State.reset.params with memMap := [⟨0, 11⟩] } }

/-- Each clause has a state: `pc` misaligned by one and by the last; aligned and barred; aligned, not barred and not backed. -/
theorem witness_FetchExceptions : ¬Takeable { State.reset with pc := 0x00400001 } ∧ (0x00400001#32).toNat % 4 ≠ 0 ∧
    ¬Takeable { State.reset with pc := 0x00400003 } ∧ (0x00400003#32).toNat % 4 ≠ 0 ∧
    ¬Takeable barredPcState ∧ barredPcState.pc.toNat % 4 = 0 ∧ Barred barredPcState barredPcState.pc ∧
    ¬Takeable unbackedPcState ∧ unbackedPcState.pc.toNat % 4 = 0 ∧ ¬Barred unbackedPcState unbackedPcState.pc ∧
    unbackedPcState.backed unbackedPcState.pc 4 = false ∧ ¬Takeable partlyBackedPcState ∧
    partlyBackedPcState.pc.toNat % 4 = 0 ∧ ¬Barred partlyBackedPcState partlyBackedPcState.pc ∧
    partlyBackedPcState.backed partlyBackedPcState.pc 4 = false := by decide +kernel

theorem test_fetch_exceptions : afterStep barredPcState (fun t => (t.cause.excCode, t.badVAddr)) = some (4, 0x80000000) ∧
    [unbackedPcState, partlyBackedPcState].map (afterStep · (·.cause.excCode)) = [some 6, some 6] := by decide +kernel

/-- Memory at reset reads 0 at `pc`: the word of `sll $0,$0,0`, which is `nop`. -/
theorem witness_StepRunsTheDecodedInstruction : ¬Takeable State.reset ∧ State.reset.pc.toNat % 4 = 0 ∧
    ¬Barred State.reset State.reset.pc ∧ State.reset.backed State.reset.pc 4 = true ∧
    decodeBytes [State.reset.readByte State.reset.pc, State.reset.readByte (State.reset.pc + 1#32),
      State.reset.readByte (State.reset.pc + 2#32), State.reset.readByte (State.reset.pc + 3#32)] = .ok (.sll 0 0 0) := by
  decide +kernel

/-- A word that matches no row stands at `pc`. -/
def unlistedAtPcState : State := State.reset.withFetchWord 32 0x01095060

/-- The same hypotheses with a word that does not decode: the step enters with code 10. -/
theorem witness_StepRunsTheDecodedInstruction_unlisted : ¬Takeable unlistedAtPcState ∧ unlistedAtPcState.pc.toNat % 4 = 0 ∧
    ¬Barred unlistedAtPcState unlistedAtPcState.pc ∧ unlistedAtPcState.backed unlistedAtPcState.pc 4 = true ∧
    wordAtPc unlistedAtPcState = 0x01095060#32 ∧
    afterStep unlistedAtPcState (fun t => (t.cause.excCode, t.epc)) = some (10, 0x00400000) := by decide +kernel

theorem witness_ModesBehaveAlike : (Instr.add 10 8 9).privileged = false ∧ State.reset.params.userSegmentCheck = false := by decide

/-- In user mode: an instruction that keeps the mode, and an exception; from kernel to user mode: `eret`, and `mtc0`. -/
theorem witness_ModeChanges : InUserMode userState ∧ (∃ t, exec .sync userState = .next t) ∧
    (∃ t, exec (.brk 0) userState = .next t) ∧ ¬InUserMode (userState.raise .trap) ∧
    (∃ t, exec .eret (userState.raise .trap) = .next t ∧ InUserMode t) ∧ ¬InUserMode (start [(8, 0x10)]) ∧
    ∃ t, exec (.mtc0 8 12) (start [(8, 0x10)]) = .next t ∧ InUserMode t :=
  ⟨by decide, ⟨_, rfl⟩, ⟨_, rfl⟩, by decide, ⟨_, rfl, by decide⟩, by decide, _, rfl, by decide⟩

theorem witness_HiLoAndFlagsKept : (∃ t, exec (.add 10 8 9) State.reset = .next t) ∧ (Instr.add 10 8 9).writesHiLo = false ∧
    (Instr.add 10 8 9).compares = false := ⟨⟨_, rfl⟩, rfl, rfl⟩

theorem witness_RegisterFilesApart : (∃ t, exec (.add 10 8 9) State.reset = .next t) ∧
    coprocessor1Word (encode (.add 10 8 9)) = false ∧ (∃ t, exec (.movS 0 2) State.reset = .next t) ∧
    coprocessor1Word (encode (.movS 0 2)) = true := ⟨⟨_, rfl⟩, by decide, ⟨_, rfl⟩, by decide⟩

theorem witness_OnlyStoresWriteMemory : (Instr.lw 9 4 8).stores = false ∧ ∃ t, exec (.lw 9 4 8) State.reset = .next t :=
  ⟨rfl, _, rfl⟩

/-- The link kept by an ordinary instruction, and cleared by `eret`, by `sc`, by an exception entry. -/
theorem witness_LinkState : (∀ rt imm rs, Instr.sync ≠ .ll rt imm rs) ∧
    (let s := { State.reset with llBit := true }
     (∃ t, exec .sync s = .next t ∧ t.llBit = true) ∧ (∃ t, exec .eret s = .next t ∧ t.llBit = false) ∧
     (∃ t, exec (.sc 9 4 8) s = .next t ∧ t.llBit = false) ∧ ∃ t, exec (.brk 0) s = .next t ∧ t.llBit = false) :=
  ⟨fun _ _ _ => nofun, ⟨_, rfl, rfl⟩, ⟨_, rfl, rfl⟩, ⟨_, rfl, rfl⟩, _, rfl, rfl⟩

theorem witness_WellFormedInstructionsComplete : (Instr.addD 0 2 4).wellFormed = true ∧ (Instr.addD 0 2 4).namedOnly = false ∧
    slotState.bd = true ∧ (Instr.addD 0 2 4).transfersControl = false ∧ (Instr.jr 8).transfersControl = true ∧
    State.reset.bd = false ∧ State.reset.params.syscallIsHostCall = false := by decide

theorem witness_StepKeepsTheParameters : ∃ t, step State.reset = .next t := ⟨_, rfl⟩

theorem witness_StepKeepsTheInvariant : MachineInv (start [(8, 1)]) ∧ ∃ t, step (start [(8, 1)]) = .next t :=
  ⟨⟨by decide, by decide, fun _ => rfl⟩, _, rfl⟩

end Sys2Proof.Tests
end

/-! PROOFS. The whole-machine frames and the invariant (spec/10_state.md). Each frame is proved once, over the next states of
`Effect` (Laws/Exec.lean); the statements follow by `exec_effect` and `step_next`. -/

namespace Sys2Proof.Machine

/-! ### Rules of two operations -/

/-- A write to register 0 is discarded (R21). -/
@[simp] theorem State.writeX_zero (s : State) (v : Word) : s.writeX 0#5 v = s := if_pos rfl

/-- A division by zero writes `HI` and `LO` after two draws (R243, R244). -/
@[simp] theorem State.divideByZero_eq (s : State) :
    s.divideByZero = s.drawn.drawn.putHiLo (Config.drawWord (s.draws + 1)) (Config.drawWord s.draws) := rfl

section Frames

variable {i : Instr} {s t : State}

/-! ### What each part of the state owes to which instructions -/

/-- `HI` and `LO` are integer registers (R31): no word of the floating-point family writes them. -/
theorem writesHiLo_eq_false_of_float (h : i.float = true) : i.writesHiLo = false := by
  cases i with
  | mult | multu | div | divu | mthi | mtlo => cases h
  | _ => rfl

/-- Only the six instructions of R31 write `HI` or `LO` (R249). -/
theorem Effect.hiLo_eq (h : Effect i s t) (hi : i.writesHiLo = false) : t.hi = s.hi ∧ t.lo = s.lo := by
  cases h with
  | putHiLo _ _ hw | divideByZero hw => simp [hi] at hw
  | _ => simp

/-- Only a compare writes a condition flag (R34). -/
theorem Effect.cc_eq (h : Effect i s t) (hi : i.compares = false) : t.cc = s.cc := by
  cases h with
  | putCc _ _ hc => simp [hi] at hc
  | _ => simp

/-- Every compare is of the floating-point family, so outside the family the flags are kept as the `f` registers are (R33). -/
theorem Effect.fpr_cc_eq (h : Effect i s t) (hi : i.float = false) : t.fpr = s.fpr ∧ t.cc = s.cc := by
  cases h with
  | putF _ _ hf | putD _ _ hf | putCc _ _ _ hf => simp [hi] at hf
  | _ => simp

/-- The floating-point family leaves the general registers (R33, R283). -/
theorem Effect.gpr_eq (h : Effect i s t) (hi : i.float = true) : t.gpr = s.gpr := by
  cases h with
  | putX _ _ hf | link _ _ _ _ hf => simp [hi] at hf
  | drawX _ _ he | ll _ _ he | scStores _ _ he | scFails he => subst he; cases hi
  | _ => simp

/-- Only a store writes memory (R59). -/
theorem Effect.mem_eq (h : Effect i s t) (hi : i.stores = false) : t.mem = s.mem := by
  cases h with
  | storeByte _ _ hs | storeHalf _ _ hs | storeWord _ _ hs | storeTwoWords _ _ _ hs => simp [hi] at hs
  | scStores _ _ he => subst he; cases hi
  | _ => simp

/-- The link after an instruction other than `ll`: kept, or broken by `eret`, by `sc` or by an exception entry (R45, R227). -/
theorem Effect.link_cases (h : Effect i s t) (hi : ∀ rt imm rs, i ≠ .ll rt imm rs) :
    t.llAddr = s.llAddr ∧ (t.llBit = s.llBit ∨ t.llBit = false ∧
      (i = .eret ∨ (∃ rt imm rs, i = .sc rt imm rs) ∨ ∃ code bad, Entered code bad s t)) := by
  cases h with
  | raise e => exact ⟨rfl, .inr ⟨rfl, .inr (.inr ⟨_, _, s.raise_entered e⟩)⟩⟩
  | scRaise he | scStores _ _ he | scFails he => exact ⟨by simp, .inr ⟨by simp, .inr (.inl ⟨_, _, _, he⟩)⟩⟩
  | eret he => exact ⟨rfl, .inr ⟨rfl, .inl he⟩⟩
  | ll _ _ he => exact absurd he (hi _ _ _)
  | _ => simp

/-- After a branch or jump the instruction in the delay slot is next (R27). -/
theorem Effect.pc_of_bd (h : Effect i s t) (hb : t.bd = true) : t.pc = s.npc := by
  cases h with
  | transfer | link => simp
  | _ => simp at hb

/-! ### The invariant -/

/-- Every instruction leaves `npc` after `pc` outside a delay slot, whatever they were before it (R27). -/
theorem Effect.straight (h : Effect i s t) (hb : t.bd = false) : t.npc = t.pc + 4#32 := by
  cases h with
  | transfer | link => simp at hb
  | _ => simp

/-- `Cause` is kept or receives the code of an exception (R39). -/
theorem Effect.cause_cases (h : Effect i s t) : t.cause = s.cause ∨ ∃ e : Exception, t.cause.excCode = e.code := by
  cases h with
  | raise e => exact .inr ⟨e, rfl⟩
  | scRaise _ e => exact .inr ⟨e, rfl⟩
  | _ => simp

/-- Memory stays canonical: a store writes bytes, anything else leaves it (R50). -/
theorem Effect.mem_wf (h : Effect i s t) (hm : s.mem.wf) : t.mem.wf := by
  cases h with
  | storeByte a v => exact State.writeByte_wf hm a v
  | storeHalf a v => exact State.writeHalf_wf hm a v
  | storeWord a v => exact State.writeWord_wf hm a v
  | storeTwoWords a v w => exact State.writeWord_wf (State.writeWord_wf hm a v) (a + 4#32) w
  | scStores a v =>
    have hd : s.scDrawn.mem.wf := by rwa [State.scDrawn_mem]
    rw [State.putX_mem]
    exact State.writeWord_wf hd a v
  | _ => simpa using hm

/-- The code of every exception is one of the table's (R321, R39). -/
theorem Exception.code_listed (e : Exception) :
    e.code ∈ [0#5, 4#5, 5#5, 6#5, 7#5, 8#5, 9#5, 10#5, 11#5, 12#5, 13#5, 15#5] := by
  cases e <;> simp [Exception.code]

/-- An exception or interrupt entry keeps the invariant (R330). -/
theorem MachineInv.raise (h : MachineInv s) (e : Exception) : MachineInv (s.raise e) :=
  ⟨h.memory, e.code_listed, fun _ => rfl⟩

/-- What an instruction can do keeps the invariant. -/
theorem MachineInv.effect (h : MachineInv s) (he : Effect i s t) : MachineInv t where
  memory := he.mem_wf h.memory
  excCode := by
    rcases he.cause_cases with hc | ⟨e, hc⟩
    · rw [hc]; exact h.excCode
    · rw [hc]; exact e.code_listed
  straight := he.straight

/-- The invariant does not speak of the interrupt lines. -/
theorem MachineInv.withIrq (h : MachineInv s) (l : List (BitVec 8)) : MachineInv { s with irq := l } :=
  ⟨h.memory, h.excCode, h.straight⟩

end Frames

/-! ### Control transfers in a delay slot -/

/-- A branch is refused in a delay slot (R30, R188). -/
theorem State.branch_of_bd {s : State} (h : s.bd = true) (c : Bool) (imm : BitVec 16) :
    s.branch c imm = .refused .transferInDelaySlot :=
  if_pos h

/-- A branch that links tests the delay slot before the link clash (log entry 11). -/
theorem State.branchLink_of_bd {s : State} (h : s.bd = true) (rs : Reg) (c : Bool) (imm : BitVec 16) :
    s.branchLink rs c imm = .refused .transferInDelaySlot :=
  if_pos h

/-- With the unit, a branch on a flag is a branch (R166). -/
theorem State.branchFp_of_hasFpu {s : State} (h : s.params.hasFpu = true) (c : Bool) (imm : BitVec 16) :
    s.branchFp c imm = s.branch c imm :=
  if_pos h

/-! ### A step that fetches -/

/-- With the checks of R57 and R58 passed, a fetch gives the word at `pc`. -/
theorem State.fetch_ok {s : State} (ha : s.pc.toNat % 4 = 0) (hb : ¬Barred s s.pc) (hk : Backed s s.pc 4) :
    s.fetch = .ok (wordAtPc s) := by
  rw [s.fetch_eq, if_neg (not_or.2 ⟨not_not.2 ha, hb⟩), if_pos hk]

/-- A word that decodes runs as its instruction (R89). -/
theorem runWord_of_decode {w : Word} {i : Instr} (h : decode w = .ok i) (s : State) : runWord w s = exec i s := by
  simp only [runWord, h]

/-- With no interrupt takeable, a step runs the fetched word (R338). -/
theorem step_of_fetch {s : State} {w : Word} (ht : ¬Takeable s) (hw : s.fetch = .ok w) :
    step s = linesMoveOn (runWord w s) := by
  rw [step_eq, if_neg ht, hw]

/-! ### The statements -/

/-- Settles O56: what a step can do is an exception or interrupt entry, or what an instruction can do (`step_next`), and each
keeps the three clauses. -/
theorem stepKeepsTheInvariant : Obligations.StepKeepsTheInvariant := by
  intro s t h hstep
  obtain ⟨u, rfl, ⟨_, rfl⟩ | ⟨_, e, _, rfl⟩ | ⟨_, i, he⟩⟩ := step_next hstep
  · exact (h.raise .interrupt).withIrq _
  · exact (h.raise e).withIrq _
  · exact (h.effect he).withIrq _

/-- Settles O11: each family tests the flag before anything else, but for the missing unit of `bc1f` and `bc1t`. -/
theorem transfersRefusedInDelaySlot : Obligations.TransfersRefusedInDelaySlot := by
  intro i s hi hb hunit
  cases i with
  | bc1f cc imm =>
    have hf : s.params.hasFpu = true := hunit.resolve_right fun h => (h cc imm).1 rfl
    exact (State.branchFp_of_hasFpu hf _ imm).trans (State.branch_of_bd hb _ imm)
  | bc1t cc imm =>
    have hf : s.params.hasFpu = true := hunit.resolve_right fun h => (h cc imm).2 rfl
    exact (State.branchFp_of_hasFpu hf _ imm).trans (State.branch_of_bd hb _ imm)
  | beq | bgez | bgtz | blez | bltz | bne => exact State.branch_of_bd hb _ _
  | bgezal | bltzal => exact State.branchLink_of_bd hb _ _ _
  | j | jal | jr | jalr | eret => exact if_pos hb
  | _ => cases hi

/-- Settles O43: the instruction was a branch or jump, so `pc` is now the old `npc`, one word after it. -/
theorem delaySlotExceptionNamesTheBranch : Obligations.DelaySlotExceptionNamesTheBranch := by
  intro i s t e _ hnpc hexec hb hel
  have hpc : t.pc = s.pc + 4#32 := ((exec_effect hexec).pc_of_bd hb).trans hnpc
  simp [hel, hb, hpc]

/-- Settles O49. -/
theorem hiLoAndFlagsKept : Obligations.HiLoAndFlagsKept :=
  fun _ _ _ h => ⟨(exec_effect h).hiLo_eq, (exec_effect h).cc_eq⟩

/-- Settles O50: the family of a word is read off the instruction (`coprocessor1Word_encode`). -/
theorem registerFilesApart : Obligations.RegisterFilesApart := by
  intro i s t h
  rw [coprocessor1Word_encode]
  exact ⟨(exec_effect h).fpr_cc_eq,
    fun hf => ⟨(exec_effect h).gpr_eq hf, (exec_effect h).hiLo_eq (writesHiLo_eq_false_of_float hf)⟩⟩

/-- Settles O51. -/
theorem onlyStoresWriteMemory : Obligations.OnlyStoresWriteMemory :=
  fun _ _ _ hi h => (exec_effect h).mem_eq hi

/-- Settles O52: the link is kept, or broken for one of the three reasons. -/
theorem linkState : Obligations.LinkState := by
  intro i s t h hi
  obtain ⟨haddr, hkept | ⟨hclear, hwhy⟩⟩ := (exec_effect h).link_cases hi
  · exact ⟨haddr, fun ht => hkept ▸ ht, fun hs ht => by simp [hkept, hs] at ht⟩
  · exact ⟨haddr, fun ht => by simp [hclear] at ht, fun _ _ => hwhy⟩

/-- Settles O46: the fetch gives the word at `pc`, and the four bytes decode as that word does. -/
theorem stepRunsTheDecodedInstruction : Obligations.StepRunsTheDecodedInstruction := by
  intro s ht ha hb hk
  have hstep : step s = linesMoveOn (runWord (wordAtPc s) s) := step_of_fetch ht (State.fetch_ok ha hb hk)
  refine ⟨hstep, fun i hi => ?_⟩
  have hdecode : decode (wordAtPc s) = .ok i := hi
  rw [hstep, runWord_of_decode hdecode]

/-- Settles O53. -/
theorem registerZero : Obligations.RegisterZero := fun s v => ⟨s.readX_zero, s.writeX_zero v⟩

/-- Settles O57. -/
theorem invariantAtReset : Obligations.InvariantAtReset := ⟨Memory.wf_reset, by decide, fun _ => rfl⟩

/-- Settles O58: the reset state's fields, read off. -/
theorem resetState : Obligations.ResetState :=
  ⟨State.reset.readX_zero, rfl, rfl, rfl, rfl, rfl, rfl, rfl, by decide, fun _ => rfl⟩

end Sys2Proof.Machine

/-! PROOFS. Memory: what a word store leaves to read back (spec/20_memory.md), the floating-point loads and stores
(spec/48_floating_point.md section 4), and the exceptions of a fetch (spec/60_exceptions.md R338). -/

namespace Sys2Proof

/-- A word of the I format whose opcode alone selects its row, with operands `rt, imm(rs)`, decodes to that row's instruction
(R82, R89). -/
theorem decode_iWord {op : BitVec 6} {mk : BitVec 5 → BitVec 16 → BitVec 5 → Instr}
    (h : ∀ f : Fields, decodeFields { f with op := op } = some (mk f.rt f.imm f.rs)) (rs rt : BitVec 5) (imm : BitVec 16) :
    decode (Machine.iWord op rs rt imm) = .ok (mk rt imm rs) := by
  rw [iWord_eq]
  refine decode_toWord ((h (Fields.iType op rs rt imm)).trans ?_)
  rw [Fields.imm_iType, Fields.iType_rt, Fields.iType_rs]

end Sys2Proof

namespace Sys2Proof.Machine

/-! ### Bytes of a word in memory -/

/-- Two adjacent bytes of a word, the more significant first, are the halfword they make (R52). -/
theorem halfOfBytes_extractLsb' (v : Word) (i : Nat) :
    halfOfBytes (v.extractLsb' (i + 8) 8) (v.extractLsb' i 8) = v.extractLsb' i 16 :=
  BitVec.extractLsb'_append_extractLsb'_eq_extractLsb' (x := v) rfl

/-- Two adjacent words read as one double: the eight bytes from the most significant on (R52, R272). -/
theorem State.readWord_append_readWord (s : State) (a : Word) :
    s.readWord a ++ s.readWord (a + 4#32) =
      s.readByte a ++ s.readByte (a + 1#32) ++ s.readByte (a + 2#32) ++ s.readByte (a + 3#32) ++
        s.readByte (a + 4#32) ++ s.readByte (a + 5#32) ++ s.readByte (a + 6#32) ++ s.readByte (a + 7#32) := by
  simp only [State.readWord, wordOfBytes, BitVec.add_assoc, BitVec.reduceAdd]
  ext i hi
  simp only [BitVec.getElem_append]
  grind

/-! ### Loads and stores of the floating-point family -/

/-- With the unit present and even registers for doubles, an instruction that is the checks of an access and then `k` runs to
the events of R225, and to what `k` leaves when the checks pass (R256, R257). -/
theorem executes_of_fpAccess {w : Word} {i : Instr} {s k : State} {ds : List FReg} {acc : Access} {n : Nat} {a : Word}
    {done : State → Prop} (hdecode : decode w = .ok i) (hexec : exec i s = s.fp ds (s.orRaise (s.accessFault acc n a) k))
    (hfpu : s.params.hasFpu = true) (heven : ∀ d ∈ ds, IsEven d) (hdone : done k) :
    Executes w i s (fun t => Accesses (acc.addressError a).code n a s t (done t)) :=
  ⟨hdecode, _, hexec.trans (State.fp_next hfpu heven _), s.accessFault_accesses acc n a k done hdone⟩

/-! ### A step whose fetch raises -/

/-- A fetch at a misaligned or barred `pc` (R57, R63). -/
theorem State.fetch_addressError {s : State} (h : s.pc.toNat % 4 ≠ 0 ∨ Barred s s.pc) :
    s.fetch = .error (.addressErrorLoad s.pc) := by
  rw [s.fetch_eq, if_pos h]

/-- A fetch at an unbacked `pc`, the other two checks passed (R58). -/
theorem State.fetch_busError {s : State} (ha : s.pc.toNat % 4 = 0) (hb : ¬Barred s s.pc) (hk : ¬Backed s s.pc 4) :
    s.fetch = .error .busErrorFetch := by
  rw [s.fetch_eq, if_neg (not_or.2 ⟨not_not.2 ha, hb⟩), if_neg hk]

/-- With no interrupt takeable, a step whose fetch raises is the entry of that exception, and the lines move on (R338, R341). -/
theorem step_of_fetch_error {s : State} {e : Exception} (ht : ¬Takeable s) (he : s.fetch = .error e) :
    ∃ t, step s = .next { t with irq := t.irq.tail } ∧ Entered e.code e.badAddr s t := by
  refine ⟨s.raise e, ?_, s.raise_entered e⟩
  rw [step_eq, if_neg ht, he, linesMoveOn]

/-! ### The statements -/

/-- Settles O31: each is the checks of its access and then one register write or store; the two words of a double are its eight
bytes. -/
theorem floatingPointLoadsAndStores : Obligations.FloatingPointLoadsAndStores := by
  intro ft rs imm s hfpu a
  have noDoubles : ∀ d ∈ ([] : List FReg), IsEven d := by simp
  have oneDouble (h : IsEven ft) : ∀ d ∈ [ft], IsEven d := by simpa using h
  refine ⟨?lwc1, fun heven => ?ldc1, ?swc1, fun heven => ?sdc1⟩
  case lwc1 =>
    exact executes_of_fpAccess (acc := .load) (decode_iWord (fun _ => rfl) rs ft imm) rfl hfpu noDoubles
      (s.writeF_writesF ft (s.readWord a))
  case ldc1 =>
    rw [← s.readWord_append_readWord a]
    exact executes_of_fpAccess (acc := .load) (decode_iWord (fun _ => rfl) rs ft imm) rfl hfpu (oneDouble heven)
      (s.writeD_writesD ft (s.readWord a ++ s.readWord (a + 4#32)))
  case swc1 =>
    exact executes_of_fpAccess (acc := .store) (decode_iWord (fun _ => rfl) rs ft imm) rfl hfpu noDoubles
      (s.writeWord_stores a (s.readF ft))
  case sdc1 =>
    rw [← s.readD_eq_pairValue ft]
    exact executes_of_fpAccess (acc := .store) (decode_iWord (fun _ => rfl) rs ft imm) rfl hfpu (oneDouble heven)
      (s.writeWord_writeWord_stores a ((s.readD ft).extractLsb' 32 32) ((s.readD ft).extractLsb' 0 32))

/-- Settles O20: the halfwords and the word are joined from the four bytes read. -/
theorem storedWordReadsBack : Obligations.StoredWordReadsBack := by
  intro a v s t
  have b0 : t.readByte a = v.extractLsb' 24 8 := by simp [t, wordByte]
  have b1 : t.readByte (a + 1#32) = v.extractLsb' 16 8 := by simp [t, wordByte]
  have b2 : t.readByte (a + 2#32) = v.extractLsb' 8 8 := by simp [t, wordByte]
  have b3 : t.readByte (a + 3#32) = v.extractLsb' 0 8 := by simp [t, wordByte]
  have a3 : a + 2#32 + 1#32 = a + 3#32 := BitVec.add_assoc a 2#32 1#32
  refine ⟨b0, b1, b2, b3, ?_, ?_, s.readWord_writeWord a v, fun q h0 h1 h2 h3 => ?_⟩
  · rw [State.readHalf, b0, b1, halfOfBytes_extractLsb']
  · rw [State.readHalf, a3, b2, b3, halfOfBytes_extractLsb']
  · rw [State.readByte_writeWord, if_neg h3, if_neg h2, if_neg h1, if_neg h0]

/-- Settles O45: the fetch raises in the order of R338, and the step enters what it raised. -/
theorem fetchExceptions : Obligations.FetchExceptions := fun _ ht =>
  ⟨fun ha => step_of_fetch_error ht (State.fetch_addressError (.inl ha)),
    fun _ hb => step_of_fetch_error ht (State.fetch_addressError (.inr hb)),
    fun ha hb hk => step_of_fetch_error ht (State.fetch_busError ha hb hk)⟩

end Sys2Proof.Machine

/-! PROOFS. Decoding and encoding (spec/30_encoding.md): the two are inverse, a word decodes exactly when it fits a row of the
opcode table, and a word that fits none is unlisted. -/

namespace Sys2Proof

/-! ### Joining the fields that a decoder took apart -/

/-- An R-format join is a given word's fields exactly when they agree (R81). The lemmas after this one say the same of the other
formats, for the immediate, address, code or flag number of the word itself. -/
theorem Fields.special_eq_iff {f : Fields} {rs rt rd shamt : BitVec 5} {funct : BitVec 6} :
    Fields.special rs rt rd shamt funct = f ↔
      f.op = 0x00#6 ∧ f.rs = rs ∧ f.rt = rt ∧ f.rd = rd ∧ f.shamt = shamt ∧ f.funct = funct := by
  constructor
  · rintro rfl; exact ⟨rfl, rfl, rfl, rfl, rfl, rfl⟩
  · rintro ⟨hop, rfl, rfl, rfl, rfl, rfl⟩; rw [Fields.special, ← hop]

theorem Fields.frType_eq_iff {f : Fields} {fmt ft fs fd : BitVec 5} {funct : BitVec 6} :
    Fields.frType fmt ft fs fd funct = f ↔
      f.op = 0x11#6 ∧ f.rs = fmt ∧ f.rt = ft ∧ f.rd = fs ∧ f.shamt = fd ∧ f.funct = funct := by
  constructor
  · rintro rfl; exact ⟨rfl, rfl, rfl, rfl, rfl, rfl⟩
  · rintro ⟨hop, rfl, rfl, rfl, rfl, rfl⟩; rw [Fields.frType, ← hop]

theorem Fields.iType_imm_eq_iff {f : Fields} {op : BitVec 6} {rs rt : BitVec 5} :
    Fields.iType op rs rt f.imm = f ↔ f.op = op ∧ f.rs = rs ∧ f.rt = rt := by
  constructor
  · intro h; rw [← h]; exact ⟨rfl, rfl, rfl⟩
  · rintro ⟨rfl, rfl, rfl⟩; exact f.iType_imm

theorem Fields.jType_address_eq_iff {f : Fields} {op : BitVec 6} : Fields.jType op f.address = f ↔ f.op = op := by
  constructor
  · intro h; rw [← h]; rfl
  · rintro rfl; exact f.jType_address

theorem Fields.codeType_code20_eq_iff {f : Fields} {funct : BitVec 6} :
    Fields.codeType f.code20 funct = f ↔ f.op = 0x00#6 ∧ f.funct = funct := by
  constructor
  · intro h; rw [← h]; exact ⟨rfl, rfl⟩
  · rintro ⟨hop, rfl⟩; exact Fields.codeType_code20 hop

theorem Fields.trapType_code10_eq_iff {f : Fields} {rs rt : BitVec 5} {funct : BitVec 6} :
    Fields.trapType rs rt f.code10 funct = f ↔ f.op = 0x00#6 ∧ f.rs = rs ∧ f.rt = rt ∧ f.funct = funct := by
  constructor
  · intro h; rw [← h]; exact ⟨rfl, rfl, rfl, rfl⟩
  · rintro ⟨hop, rfl, rfl, rfl⟩; exact Fields.trapType_code10 hop

/-- Beside the flag number of a compare, word[7:6] = 0 (R88, R267). -/
theorem Fields.compareType_ccCompare_eq_iff {f : Fields} {fmt ft fs : BitVec 5} {funct : BitVec 6} :
    Fields.compareType fmt ft fs f.ccCompare funct = f ↔
      f.op = 0x11#6 ∧ f.rs = fmt ∧ f.rt = ft ∧ f.rd = fs ∧ f.shamt.extractLsb' 0 2 = 0#2 ∧ f.funct = funct := by
  constructor
  · intro h; rw [← h]; exact ⟨rfl, rfl, rfl, rfl, cc_join_low _, rfl⟩
  · rintro ⟨hop, rfl, rfl, rfl, hlow, rfl⟩
    rw [Fields.compareType, Fields.ccCompare, cc_split_compare _ hlow, ← hop]

/-- Beside the flag number of `bc1f` and `bc1t`, word[17] = 0 and word[16] = `tf` (R88, R166). -/
theorem Fields.bc1Type_ccBranch_eq {f : Fields} {tf : BitVec 1} (hop : f.op = 0x11#6) (hrs : f.rs = 0x08#5)
    (hrt : f.rt.extractLsb' 2 3 ++ 0#1 ++ tf = f.rt) : Fields.bc1Type f.ccBranch tf f.imm = f :=
  Fields.iType_imm_eq_iff.2 ⟨hop, hrs, hrt.symm⟩

/-! ### Encoding what a decoder answers, along the decoder's branches (R89 to R95) -/

theorem encodeFields_of_decodeSpecial {f : Fields} {i : Instr} (hop : f.op = 0x00#6) (h : decodeSpecial f = some i) :
    encodeFields i = f := by
  revert h
  fun_cases decodeSpecial <;> rintro ⟨⟩ <;>
    simp only [encodeFields, Fields.special_eq_iff, Fields.codeType_code20_eq_iff, Fields.trapType_code10_eq_iff, *, and_self]

theorem encodeFields_of_decodeRegimm {f : Fields} {i : Instr} (hop : f.op = 0x01#6) (h : decodeRegimm f = some i) :
    encodeFields i = f := by
  revert h
  fun_cases decodeRegimm <;> rintro ⟨⟩ <;> simp only [encodeFields, Fields.iType_imm_eq_iff, *, and_self]

theorem encodeFields_of_decodeCop0 {f : Fields} {i : Instr} (hop : f.op = 0x10#6) (h : decodeCop0 f = some i) :
    encodeFields i = f := by
  obtain ⟨op, rs, rt, rd, shamt, funct⟩ := f
  revert h
  fun_cases decodeCop0 <;> rintro ⟨⟩ <;> simp_all only [encodeFields]

theorem encodeFields_of_decodeSingle {f : Fields} {i : Instr} (hop : f.op = 0x11#6) (hfmt : f.rs = 0x10#5)
    (h : decodeSingle f = some i) : encodeFields i = f := by
  revert h
  fun_cases decodeSingle <;> rintro ⟨⟩ <;>
    simp only [encodeFields, Fields.frType_eq_iff, Fields.compareType_ccCompare_eq_iff, *, and_self]

theorem encodeFields_of_decodeDouble {f : Fields} {i : Instr} (hop : f.op = 0x11#6) (hfmt : f.rs = 0x11#5)
    (h : decodeDouble f = some i) : encodeFields i = f := by
  revert h
  fun_cases decodeDouble <;> rintro ⟨⟩ <;>
    simp only [encodeFields, Fields.frType_eq_iff, Fields.compareType_ccCompare_eq_iff, *, and_self]

theorem encodeFields_of_decodeBc1 {f : Fields} {i : Instr} (hop : f.op = 0x11#6) (hfmt : f.rs = 0x08#5)
    (h : decodeBc1 f = some i) : encodeFields i = f := by
  revert h
  fun_cases decodeBc1 with
  | case1 hlow => rintro ⟨⟩; exact Fields.bc1Type_ccBranch_eq hop hfmt (cc_split_false _ hlow)
  | case2 hlow => rintro ⟨⟩; exact Fields.bc1Type_ccBranch_eq hop hfmt (cc_split_true _ hlow)
  | case3 => rintro ⟨⟩

theorem encodeFields_of_decodeCop1 {f : Fields} {i : Instr} (hop : f.op = 0x11#6) (h : decodeCop1 f = some i) :
    encodeFields i = f := by
  revert h
  fun_cases decodeCop1 with
  | case1 hfmt => exact encodeFields_of_decodeBc1 hop hfmt
  | case2 hfmt => exact encodeFields_of_decodeSingle hop hfmt
  | case3 hfmt => exact encodeFields_of_decodeDouble hop hfmt
  | case4 => rintro ⟨⟩

/-- Every branch of the decoder checks each bit that it does not hand to an operand. -/
theorem encodeFields_of_decodeFields {f : Fields} {i : Instr} (h : decodeFields f = some i) : encodeFields i = f := by
  revert h
  fun_cases decodeFields with
  | case1 hop => exact encodeFields_of_decodeSpecial hop
  | case2 hop => exact encodeFields_of_decodeRegimm hop
  | case20 hop => exact encodeFields_of_decodeCop0 hop
  | case21 hop => exact encodeFields_of_decodeCop1 hop
  | _ => rintro ⟨⟩ <;> simp only [encodeFields, Fields.iType_imm_eq_iff, Fields.jType_address_eq_iff, *, and_self]

/-- The join of the fields of a word is the word, so what decodes from it encodes to it. -/
theorem encode_of_decode {w : Word} {i : Instr} (h : decode w = .ok i) : encode i = w := by
  rw [encode, encodeFields_of_decodeFields (decode_ok_iff.1 h), Fields.toWord_ofWord]

/-! ### Decoding what the encoder joined, by format -/

/-- With the fields that `encodeFields` gives, each decoder selects on numerals and runs by unfolding (`congrArg some`); what
remains is that an operand split over several fields, or beside fixed bits, is read back whole. -/
theorem decodeFields_encodeFields (i : Instr) : decodeFields (encodeFields i) = some i := by
  cases i with
  | addi | addiu | andi | ori | xori | lui | slti | sltiu | beq | bne | blez | bgtz | bltz | bgez | bltzal | bgezal | teqi
  | tnei | lb | lbu | lh | lhu | lw | sb | sh | sw | ll | sc | lwc1 | ldc1 | swc1 | sdc1 | lwl | lwr | swl | swr | cache | pref
  | lwc2 | ldc2 | swc2 | sdc2 =>
    refine congrArg some ?_
    simp only [encodeFields, Fields.iType_rs, Fields.iType_rt, Fields.imm_iType]
  | j | jal => exact congrArg some (congrArg _ (Fields.address_jType ..))
  | syscall | brk => exact congrArg some (congrArg _ (Fields.code20_codeType ..))
  | teq | tne | tge | tgeu | tlt | tltu => exact congrArg some (congrArg _ (Fields.code10_trapType ..))
  | bc1f | bc1t =>
    simp only [encodeFields, decodeFields, decodeCop1, decodeBc1, Fields.bc1Type, Fields.ccBranch, Fields.iType_op,
      Fields.iType_rs, Fields.iType_rt, Fields.imm_iType, cc_join_false, cc_join_true, cc_join_branch]
  | cFS | cUnS | cEqS | cUeqS | cOltS | cUltS | cOleS | cUleS | cSfS | cNgleS | cSeqS | cNglS | cLtS | cNgeS | cLeS | cNgtS
  | cFD | cUnD | cEqD | cUeqD | cOltD | cUltD | cOleD | cUleD | cSfD | cNgleD | cSeqD | cNglD | cLtD | cNgeD | cLeD | cNgtD =>
    refine (if_pos (cc_join_low _)).trans (congrArg some ?_)
    simp only [encodeFields, Fields.compareType, Fields.ccCompare, cc_join_high]
  | _ => rfl

/-! ### The mnemonic of a word that fits a row -/

/-- A field with the row's bits `q` where the row's mask `m` has any, else the field itself. -/
def pinField {n : Nat} (m q x : BitVec n) : BitVec n := if m = 0#n then x else q

/-- A word's fields with those that the row fixes replaced by the row's (R105). A flag number that shares a field with fixed
bits (R88) becomes 0. -/
def OpcodeRow.pin (row : OpcodeRow) (f : Fields) : Fields :=
  let g := Fields.ofWord row.mask
  let q := Fields.ofWord row.pattern
  ⟨pinField g.op q.op f.op, pinField g.rs q.rs f.rs, pinField g.rt q.rt f.rt, pinField g.rd q.rd f.rd,
    pinField g.shamt q.shamt f.shamt, pinField g.funct q.funct f.funct⟩

/-- The decoder run once for each row, on the row's own bits with a variable in every free field. -/
theorem mnemonic_decodeFields_pin (f : Fields) :
    ∀ row ∈ opcodeTable, (decodeFields (row.pin f)).map Instr.mnemonic = some row.mnemonic := by
  have hrows : opcodeTable.map (fun row => (decodeFields (row.pin f)).map Instr.mnemonic) =
      opcodeTable.map (fun row => some row.mnemonic) := by rfl
  exact List.map_inj_left.1 hrows

/-- The mask looks at the whole field or at none of it. -/
abbrev AllOrNone {n : Nat} (m : BitVec n) : Prop := m = 0#n ∨ m = BitVec.allOnes n

theorem pinField_and {n : Nat} {m : BitVec n} (hm : AllOrNone m) (x : BitVec n) : pinField m (x &&& m) x = x := by
  obtain rfl | rfl := hm <;> simp [pinField]

/-- The mask of a row applied to a word masks its fields (R81, R105). -/
theorem Fields.ofWord_and (w m : Word) :
    let f := Fields.ofWord w
    let g := Fields.ofWord m
    Fields.ofWord (w &&& m) =
      ⟨f.op &&& g.op, f.rs &&& g.rs, f.rt &&& g.rt, f.rd &&& g.rd, f.shamt &&& g.shamt, f.funct &&& g.funct⟩ := by
  simp only [Fields.ofWord, BitVec.extractLsb'_and]

/-- What a row's mask looks at: whole fields, but for the two bits beside the flag number of a compare and of `bc1f`/`bc1t`. -/
theorem mask_cases : ∀ row ∈ opcodeTable,
    let g := Fields.ofWord row.mask
    let q := Fields.ofWord row.pattern
    AllOrNone g.op ∧ AllOrNone g.rs ∧ AllOrNone g.rd ∧ AllOrNone g.funct ∧
      (AllOrNone g.rt ∧ AllOrNone g.shamt ∨
        (g.op = BitVec.allOnes 6 ∧ q.op = 0x11#6 ∧ g.rs = BitVec.allOnes 5) ∧
          ((q.rs = 0x10#5 ∨ q.rs = 0x11#5) ∧ AllOrNone g.rt ∧ g.shamt = 3#5 ∨
            q.rs = 0x08#5 ∧ g.rt = 3#5 ∧ AllOrNone g.shamt)) := by
  decide +kernel

theorem extractLsb'_and_three (x : BitVec 5) : (x &&& 3#5).extractLsb' 0 2 = x.extractLsb' 0 2 := by
  revert x; decide

/-- The flag number is an operand: without it a word of the family has the same mnemonic (R88). -/
theorem mnemonic_decodeSingle_flag (f : Fields) :
    (decodeSingle { f with shamt := f.shamt &&& 3#5 }).map Instr.mnemonic = (decodeSingle f).map Instr.mnemonic := by
  simp only [decodeSingle, extractLsb'_and_three]
  split <;> simp only [apply_ite (Option.map Instr.mnemonic), Option.map_some, Instr.mnemonic]

theorem mnemonic_decodeDouble_flag (f : Fields) :
    (decodeDouble { f with shamt := f.shamt &&& 3#5 }).map Instr.mnemonic = (decodeDouble f).map Instr.mnemonic := by
  simp only [decodeDouble, extractLsb'_and_three]
  split <;> simp only [apply_ite (Option.map Instr.mnemonic), Option.map_some, Instr.mnemonic]

theorem mnemonic_decodeBc1_flag (f : Fields) :
    (decodeBc1 { f with rt := f.rt &&& 3#5 }).map Instr.mnemonic = (decodeBc1 f).map Instr.mnemonic := by
  simp only [decodeBc1, extractLsb'_and_three]
  split <;> rfl

theorem mnemonic_decodeFields_compareFlag {f : Fields} (hop : f.op = 0x11#6) (hfmt : f.rs = 0x10#5 ∨ f.rs = 0x11#5) :
    (decodeFields { f with shamt := f.shamt &&& 3#5 }).map Instr.mnemonic = (decodeFields f).map Instr.mnemonic := by
  obtain hfmt | hfmt := hfmt <;> simp only [decodeFields, decodeCop1, hop, hfmt]
  · exact mnemonic_decodeSingle_flag f
  · exact mnemonic_decodeDouble_flag f

theorem mnemonic_decodeFields_branchFlag {f : Fields} (hop : f.op = 0x11#6) (hfmt : f.rs = 0x08#5) :
    (decodeFields { f with rt := f.rt &&& 3#5 }).map Instr.mnemonic = (decodeFields f).map Instr.mnemonic := by
  simp only [decodeFields, decodeCop1, hop, hfmt]
  exact mnemonic_decodeBc1_flag f

/-- A word that fits a row decodes as the row's bits do: setting the fixed fields to the row's changes nothing, and dropping the
flag number does not change the mnemonic. -/
theorem mnemonic_decodeFields_pin_of_fits {row : OpcodeRow} (hrow : row ∈ opcodeTable) {w : Word}
    (hw : w &&& row.mask = row.pattern) :
    (decodeFields (row.pin (Fields.ofWord w))).map Instr.mnemonic = (decodeFields (Fields.ofWord w)).map Instr.mnemonic := by
  obtain ⟨hop, hrs, hrd, hfunct, hrest⟩ := mask_cases row hrow
  simp only [← hw, Fields.ofWord_and] at hrest
  simp only [OpcodeRow.pin, ← hw, Fields.ofWord_and, pinField_and hop, pinField_and hrs, pinField_and hrd,
    pinField_and hfunct]
  generalize Fields.ofWord w = f at *
  obtain ⟨hrt, hshamt⟩ | ⟨⟨hopAll, hop11, hrsAll⟩, ⟨hfmt, hrt, hshamt⟩ | ⟨hfmt, hrt, hshamt⟩⟩ := hrest
  case inl => rw [pinField_and hrt, pinField_and hshamt]
  all_goals rw [hopAll, BitVec.and_allOnes] at hop11; rw [hrsAll, BitVec.and_allOnes] at hfmt
  case inr.inl =>
    rw [pinField_and hrt, hshamt]
    exact mnemonic_decodeFields_compareFlag hop11 hfmt
  case inr.inr =>
    rw [pinField_and hshamt, hrt]
    exact mnemonic_decodeFields_branchFlag hop11 hfmt

/-! ### The row of an instruction -/

/-- Every instruction's word selects the row of its mnemonic (R105): the lemmas of Laws/PerInstr.lean together. -/
theorem Laws.OpcodeRow.statement (i : Instr) : Statement i :=
  Instr.casesOn (motive := Statement) i
    add addi addiu addu and andi nor or ori sll srl sra sub subu xor xori sllv srlv srav movz movn lui slt sltu slti sltiu
    bc1f bc1t beq bgez bgezal bgtz blez bltzal bltz bne j jal jr jalr teq teqi tne tnei tge tgeu tlt tltu syscall brk mfc0
    mtc0 eret lb lbu lh lhu lw sb sh sw ll sc mult multu div divu mfhi mflo mthi mtlo lwc1 ldc1 swc1 sdc1 addS subS mulS divS
    sqrtS absS movS negS roundWS truncWS ceilWS floorWS movzS movnS cvtDS cvtWS addD subD mulD divD sqrtD absD movD negD
    roundWD truncWD ceilWD floorWD movzD movnD cvtSD cvtWD cFS cUnS cEqS cUeqS cOltS cUltS cOleS cUleS cSfS cNgleS cSeqS
    cNglS cLtS cNgeS cLeS cNgtS cFD cUnD cEqD cUeqD cOltD cUltD cOleD cUleD cSfD cNgleD cSeqD cNglD cLtD cNgeD cLeD cNgtD lwl
    lwr swl swr cache pref lwc2 ldc2 swc2 sdc2 sync

/-- A word that decodes fits the row of its instruction's mnemonic. -/
theorem exists_row_of_decode {w : Word} {i : Instr} (h : decode w = .ok i) :
    ∃ row ∈ opcodeTable, w &&& row.mask = row.pattern ∧ row.mnemonic = i.mnemonic := by
  obtain ⟨row, hrow, hmnemonic, hfits⟩ := Laws.OpcodeRow.statement i
  rw [encode_of_decode h] at hfits
  exact ⟨row, hrow, hfits, hmnemonic⟩

end Sys2Proof

namespace Sys2Proof.Machine

/-- A word that does not decode runs as an unlisted one (R98). -/
theorem runWord_of_not_decode {w : Word} (h : ∀ i, decode w ≠ .ok i) (s : State) : runWord w s = unlistedWord w s := by
  cases hd : decode w with
  | ok i => exact absurd hd (h i)
  | error e => simp only [runWord, hd]

/-- The absent unit claims no word of another family, and none at all when it is present (R256). -/
theorem not_absentUnit {w : Word} {s : State} (h : coprocessor1Word w = true → s.params.hasFpu = true) :
    ¬(!s.params.hasFpu && w.extractLsb' 26 6 == 0x11#6) = true := by
  intro habsent
  obtain ⟨hfpu, hop⟩ : s.params.hasFpu = false ∧ w.extractLsb' 26 6 = 0x11#6 := by simpa using habsent
  have hword : coprocessor1Word w = true := by rw [coprocessor1Word, hop]; rfl
  exact absurd (h hword) (by simp [hfpu])

/-- Under `UNLISTED_ENCODING = ri` an unlisted word enters with Reserved Instruction (R98). -/
theorem unlistedWord_of_ri {w : Word} {s : State} (h : coprocessor1Word w = true → s.params.hasFpu = true)
    (hri : s.params.unlisted = .ri) : unlistedWord w s = .next (s.raise .reservedInstruction) := by
  rw [unlistedWord, if_neg (not_absentUnit h), hri]

/-- Under `UNLISTED_ENCODING = refuse` an unlisted word is refused by name (R98). -/
theorem unlistedWord_of_refuse {w : Word} {s : State} (h : coprocessor1Word w = true → s.params.hasFpu = true)
    (hrefuse : s.params.unlisted = .refuse) : unlistedWord w s = .refused (.unlistedEncoding w) := by
  rw [unlistedWord, if_neg (not_absentUnit h), hrefuse]

/-! ### The statements -/

/-- Settles O39: a joined word splits into the fields it was joined from, and these decode back. -/
theorem decodeOfEncode : Obligations.DecodeOfEncode := fun i => decode_toWord (decodeFields_encodeFields i)

/-- Settles O40. -/
theorem encodeOfDecode : Obligations.EncodeOfDecode := fun _ _ => encode_of_decode

/-- Settles O37. -/
theorem decodingFollowsTheTable : Obligations.DecodingFollowsTheTable := by
  refine ⟨fun row hrow w hw => ?_, fun w i => exists_row_of_decode⟩
  have hmnemonic := (mnemonic_decodeFields_pin_of_fits hrow hw).symm.trans (mnemonic_decodeFields_pin _ row hrow)
  obtain ⟨i, hi, him⟩ := Option.map_eq_some_iff.1 hmnemonic
  exact ⟨i, decode_ok_iff.2 hi, him⟩

/-- Settles O36: a word that fits no row does not decode, since one that decodes fits a row. -/
theorem unlistedWords : Obligations.UnlistedWords := by
  intro w s hnone hfpu
  have hdecode : ∀ i, decode w ≠ .ok i := by
    intro i hi
    obtain ⟨row, hrow, hfits, -⟩ := exists_row_of_decode hi
    exact hnone row hrow hfits
  rw [runWord_of_not_decode hdecode]
  exact ⟨fun hri => ⟨_, unlistedWord_of_ri hfpu hri, s.raise_entered .reservedInstruction⟩, unlistedWord_of_refuse hfpu⟩

end Sys2Proof.Machine

/-! PROOFS. The arithmetic, logical and shift instructions and `lui` (spec/40_arithmetic_logical.md,
spec/41_constant_manipulating.md), and the words that the rules' examples print. Each word is the encoding of its instruction,
and each instruction is one register write, an Overflow in its place, or nothing. -/

namespace Sys2Proof.Machine

/-! ### Values -/

/-- The immediate of `lui` in the upper half is a multiplication by 65536 (R140). -/
theorem upperImm_eq (imm : BitVec 16) : upperImm imm = BitVec.ofNat 32 (imm.toNat * 65536) := by
  have happend : (upperImm imm).toNat = imm.toNat * 65536 := by
    rw [upperImm, BitVec.toNat_append]; simp [Nat.shiftLeft_eq]
  rw [← happend, BitVec.ofNat_toNat, BitVec.setWidth_eq]

/-- The sign-extended immediate has the value of the immediate (R85). -/
theorem toInt_signExtImm (imm : BitVec 16) : (signExtImm imm).toInt = imm.toInt :=
  BitVec.toInt_signExtend_of_le (by decide)

/-- A left shift as a product modulo 2^32 (R121). -/
theorem shiftLeft_eq_ofNat (v : Word) (n : Nat) : v <<< n = BitVec.ofNat 32 (v.toNat * 2 ^ n) := by
  apply BitVec.eq_of_toNat_eq
  rw [BitVec.toNat_shiftLeft, Nat.shiftLeft_eq, BitVec.toNat_ofNat]

/-- A logical right shift as a quotient of the unsigned value (R122). -/
theorem ushiftRight_eq_ofNat (v : Word) (n : Nat) : v >>> n = BitVec.ofNat 32 (v.toNat / 2 ^ n) := by
  rw [← Nat.shiftRight_eq_div_pow, ← BitVec.toNat_ushiftRight, BitVec.ofNat_toNat, BitVec.setWidth_eq]

/-- An arithmetic right shift as the floored quotient of the signed value (R123). -/
theorem sshiftRight_eq_ofInt (v : Word) (n : Nat) : v.sshiftRight n = BitVec.ofInt 32 (v.toInt / 2 ^ n) := by
  rw [BitVec.sshiftRight, Int.shiftRight_eq_div_pow]; norm_cast

/-- The low five bits of a register are its value modulo 32 (R128). -/
theorem State.shiftAmount_eq (s : State) (rs : Reg) : s.shiftAmount rs = (s.readX rs).toNat % 32 :=
  BitVec.extractLsb'_toNat 0 5 (s.readX rs)

/-! ### The overflow tests -/

theorem outOfRange_iff {e : Int} : outOfRange e = true ↔ ¬(-2 ^ 31 ≤ e ∧ e ≤ 2 ^ 31 - 1) := by
  simp only [outOfRange, Bool.or_eq_true, decide_eq_true_iff]; omega

/-- The model's tests are the library's signed overflow predicates. -/
theorem addOverflows_eq_saddOverflow (a b : Word) : addOverflows a b = BitVec.saddOverflow a b := by
  rw [Bool.eq_iff_iff, addOverflows, outOfRange_iff]
  simp only [BitVec.saddOverflow, Bool.or_eq_true, decide_eq_true_iff]; omega

theorem subOverflows_eq_ssubOverflow (a b : Word) : subOverflows a b = BitVec.ssubOverflow a b := by
  rw [Bool.eq_iff_iff, subOverflows, outOfRange_iff]
  simp only [BitVec.ssubOverflow, Bool.or_eq_true, decide_eq_true_iff]; omega

/-! ### From an instruction's meaning to what its word executes -/

/-- A word decodes to the instruction whose encoding it is (R89). -/
theorem decode_of_eq_encode {w : Word} {i : Instr} (h : w = encode i) : decode w = .ok i :=
  h ▸ decodeOfEncode i

section Executes

variable {w : Word} {i : Instr} {s t : State} {r : Reg} {v : Word}

/-- The encoding of an instruction that runs to `t` executes to what holds of `t`. -/
theorem executes_of_next {post : State → Prop} (hw : w = encode i) (hexec : exec i s = .next t) (hpost : post t) :
    Executes w i s post :=
  ⟨decode_of_eq_encode hw, t, hexec, hpost⟩

/-- An instruction that is one register write (R110). -/
theorem executes_of_putX (hw : w = encode i) (hexec : exec i s = .next (s.putX r v)) : Executes w i s (WritesX r v s) :=
  executes_of_next hw hexec (s.putX_writesX r v)

/-- A conditional move: under the condition a register write, else nothing (R131, R132). -/
theorem executes_of_ite_putX {c : Prop} [Decidable c] (hw : w = encode i)
    (hexec : exec i s = .next (if c then s.putX r v else s.advance)) :
    Executes w i s (fun t => if c then WritesX r v s t else WritesNothing s t) := by
  refine executes_of_next hw hexec ?_
  by_cases hc : c
  · simpa only [if_pos hc] using s.putX_writesX r v
  · simpa only [if_neg hc] using s.advance_writesNothing

/-- An instruction that writes a register unless the exact result `e` is out of range, which raises Overflow (R111). -/
theorem executes_of_overflow {e : Int} (hw : w = encode i)
    (hexec : exec i s = .next (s.orRaise (if outOfRange e then some .overflow else none) (s.putX r v))) :
    Executes w i s (fun t => if -2 ^ 31 ≤ e ∧ e ≤ 2 ^ 31 - 1 then WritesX r v s t else Entered 12#5 none s t) := by
  refine executes_of_next hw hexec ?_
  by_cases he : -2 ^ 31 ≤ e ∧ e ≤ 2 ^ 31 - 1
  · have hin : ¬outOfRange e = true := fun h => outOfRange_iff.1 h he
    rw [if_pos he, if_neg hin]; exact s.putX_writesX r v
  · rw [if_neg he, if_pos (outOfRange_iff.2 he)]; exact s.raise_entered .overflow

end Executes

/-! ### The statements -/

/-- Settles O1: each is one register write, the conditional moves under their condition. -/
theorem registerArithmeticAndLogic : Obligations.RegisterArithmeticAndLogic := by
  intro rd rs rt s
  refine ⟨executes_of_putX rfl rfl, executes_of_putX rfl rfl, executes_of_putX rfl rfl, executes_of_putX rfl rfl,
    executes_of_putX rfl rfl, executes_of_putX rfl rfl, executes_of_ite_putX rfl rfl, ?movn⟩
  case movn =>
    simpa only [ne_eq, ite_not] using
      executes_of_ite_putX (w := rWord rs rt rd 0#5 0x0b#6) (i := .movn rd rs rt) (c := s.readX rt ≠ 0#32) rfl rfl

/-- Settles O2: each is one register write, of a value that says how its immediate is extended or placed. -/
theorem immediateArithmeticAndLogic : Obligations.ImmediateArithmeticAndLogic := by
  intro rt rs imm s
  rw [← signExtImm_eq imm, ← zeroExtImm_eq imm, ← upperImm_eq imm]
  exact ⟨executes_of_putX (iWord_eq ..) rfl, executes_of_putX (iWord_eq ..) rfl, executes_of_putX (iWord_eq ..) rfl,
    executes_of_putX (iWord_eq ..) rfl, executes_of_putX (iWord_eq ..) rfl⟩

/-- Settles O3: each is one register write, of the machine's shift; the values are these shifts as arithmetic. -/
theorem shifts : Obligations.Shifts := by
  intro rd rt rs shamt s
  simp only [← s.shiftAmount_eq, ← shiftLeft_eq_ofNat, ← ushiftRight_eq_ofNat, ← sshiftRight_eq_ofInt]
  exact ⟨executes_of_putX rfl rfl, executes_of_putX rfl rfl, executes_of_putX rfl rfl, executes_of_putX rfl rfl,
    executes_of_putX rfl rfl, executes_of_putX rfl rfl⟩

/-- Settles O4: the model tests the exact result that the statement names; for `addi`, of the sign-extended immediate. -/
theorem overflowArithmetic : Obligations.OverflowArithmetic := by
  intro rd rs rt imm s
  rw [← signExtImm_eq imm, ← toInt_signExtImm imm]
  exact ⟨executes_of_overflow rfl rfl, executes_of_overflow (iWord_eq ..) rfl, executes_of_overflow rfl rfl⟩

/-- Settles O5: the library's two predicates have the sign-change form. -/
theorem overflowIsASignChange : Obligations.OverflowIsASignChange := by
  intro a b
  rw [addOverflows_eq_saddOverflow, subOverflows_eq_ssubOverflow, BitVec.saddOverflow_eq, BitVec.ssubOverflow_eq]
  refine ⟨by simp, ?_⟩
  cases a.msb <;> cases b.msb <;> simp

/-- Settles O38: each printed word is the encoding of the instruction its example names. -/
theorem writtenOutWordsDecode : Obligations.WrittenOutWordsDecode := by
  unfold Obligations.WrittenOutWordsDecode
  and_intros <;> exact decode_of_eq_encode rfl

end Sys2Proof.Machine

/-! PROOFS. The comparison instructions (spec/42_comparison.md): each writes one register, with 1 or 0 as the order that it
tests holds or not. -/

namespace Sys2Proof.Machine

/-! ### The results of the comparisons -/

/-- The result of a signed comparison is 1 or 0 by the order of the signed values (R145). -/
theorem boolWord_signedLt (a b : Word) : boolWord (signedLt a b) = if a.toInt < b.toInt then 1#32 else 0#32 := by
  simp only [boolWord, signedLt, decide_eq_true_eq]

/-- The result of an unsigned comparison is 1 or 0 by the order of the unsigned values (R146). -/
theorem boolWord_unsignedLt (a b : Word) : boolWord (unsignedLt a b) = if a.toNat < b.toNat then 1#32 else 0#32 := by
  simp only [boolWord, unsignedLt, decide_eq_true_eq]

/-! ### The statement -/

/-- Settles O6: each is one register write, of its comparison's result; both immediate forms compare with the sign-extended
immediate. -/
theorem comparisons : Obligations.Comparisons := by
  intro rd rs rt imm s
  rw [← signExtImm_eq imm, ← toInt_signExtImm imm]
  simp only [← boolWord_signedLt, ← boolWord_unsignedLt]
  exact ⟨executes_of_putX rfl rfl, executes_of_putX rfl rfl, executes_of_putX (iWord_eq ..) rfl,
    executes_of_putX (iWord_eq ..) rfl⟩

end Sys2Proof.Machine

/-! PROOFS. The branch instructions (spec/43_branch.md). Each is one of the model's three branch operations, on the condition
that its rule states: what each operation answers is said once, and an instruction adds its word and its condition. -/

namespace Sys2Proof.Machine

/-! ### What a branch operation answers outside a delay slot -/

/-- `rs` = 31 is refused, the link register being the operand (R170, R173). -/
theorem State.branchLink_of_clash {s : State} (hbd : s.bd = false) (c : Bool) (imm : BitVec 16) :
    s.branchLink 31#5 c imm = .refused .linkClash := by
  simp [State.branchLink, hbd]

/-- The link is written taken or not; the condition and the target are values from before it (R170, R173). -/
theorem State.branchLink_goesLinking {s : State} {rs : Reg} (hbd : s.bd = false) (hrs : rs ≠ 31#5) (c : Bool)
    (imm : BitVec 16) :
    ∃ t, s.branchLink rs c imm = .next t ∧ GoesLinking 31#5 (c = true) (branchGoal s imm) s t :=
  ⟨(s.writeX 31#5 s.linkAddr).transfer c (branchGoal s imm), by simp [State.branchLink, hbd, hrs, s.branchTarget_eq],
    s.transfer_goesLinking 31#5 c _⟩

/-- Without the unit, a branch on a flag enters with Coprocessor Unimplemented, in a delay slot or not (R256). -/
theorem State.branchFp_of_not_hasFpu {s : State} (hfpu : s.params.hasFpu = false) (c : Bool) (imm : BitVec 16) :
    s.branchFp c imm = .next (s.raise .coprocessorUnimplemented) :=
  if_neg (by simp [hfpu])

/-! ### From an instruction's branch operation to what its word executes

`c` is the condition as the instruction computes it, `p` as its rule states it. -/

section Executes

variable {w : Word} {i : Instr} {s : State} {rs : Reg} {imm : BitVec 16} {c : Bool} {p : Prop}

/-- An instruction that is a branch (R162). -/
theorem executes_of_branch (hbd : s.bd = false) (hw : w = encode i) (hexec : exec i s = s.branch c imm)
    (hc : c = true ↔ p) : Executes w i s (Goes p (branchGoal s imm) s) := by
  obtain ⟨t, hnext, hgoes⟩ := State.branch_goes hbd c imm
  exact executes_of_next hw (hexec.trans hnext) (propext hc ▸ hgoes)

/-- An instruction that is a branch that links (R162, R192). -/
theorem executes_of_branchLink (hbd : s.bd = false) (hrs : rs ≠ 31#5) (hw : w = encode i)
    (hexec : exec i s = s.branchLink rs c imm) (hc : c = true ↔ p) :
    Executes w i s (GoesLinking 31#5 p (branchGoal s imm) s) := by
  obtain ⟨t, hnext, hgoes⟩ := State.branchLink_goesLinking hbd hrs c imm
  exact executes_of_next hw (hexec.trans hnext) (propext hc ▸ hgoes)

/-- A branch that links, with `rs` = 31. -/
theorem refuses_of_branchLink (hbd : s.bd = false) (hw : w = encode i) (hexec : exec i s = s.branchLink 31#5 c imm) :
    Refuses w i s .linkClash :=
  ⟨decode_of_eq_encode hw, hexec.trans (State.branchLink_of_clash hbd c imm)⟩

/-- An instruction that is a branch on a flag, with the unit (R166). -/
theorem executes_of_branchFp (hfpu : s.params.hasFpu = true) (hbd : s.bd = false) (hw : w = encode i)
    (hexec : exec i s = s.branchFp c imm) (hc : c = true ↔ p) : Executes w i s (Goes p (branchGoal s imm) s) :=
  executes_of_branch hbd hw (hexec.trans (State.branchFp_of_hasFpu hfpu c imm)) hc

/-- An instruction that is a branch on a flag, without the unit (R256). -/
theorem executes_of_branchFp_absent (hfpu : s.params.hasFpu = false) (hw : w = encode i)
    (hexec : exec i s = s.branchFp c imm) : Executes w i s (Entered 11#5 none s) :=
  executes_of_next hw (hexec.trans (State.branchFp_of_not_hasFpu hfpu c imm)) (s.raise_entered .coprocessorUnimplemented)

end Executes

/-! ### The statements -/

/-- Settles O7: each is a branch on its own condition. -/
theorem conditionalBranches : Obligations.ConditionalBranches := by
  intro rs rt imm s hbd
  exact ⟨executes_of_branch hbd (iWord_eq ..) rfl beq_iff_eq, executes_of_branch hbd (iWord_eq ..) rfl bne_iff_ne,
    executes_of_branch hbd (iWord_eq ..) rfl decide_eq_true_iff, executes_of_branch hbd (iWord_eq ..) rfl decide_eq_true_iff,
    executes_of_branch hbd (iWord_eq ..) rfl decide_eq_true_iff, executes_of_branch hbd (iWord_eq ..) rfl decide_eq_true_iff⟩

/-- Settles O8: both are a branch that links, which `rs` = 31 refuses. -/
theorem linkingBranches : Obligations.LinkingBranches := by
  intro rs imm s hbd
  by_cases hrs : rs = 31#5
  · subst hrs
    rw [if_pos rfl]
    exact ⟨refuses_of_branchLink hbd (iWord_eq ..) rfl, refuses_of_branchLink hbd (iWord_eq ..) rfl⟩
  · rw [if_neg hrs]
    exact ⟨executes_of_branchLink hbd hrs (iWord_eq ..) rfl decide_eq_true_iff,
      executes_of_branchLink hbd hrs (iWord_eq ..) rfl decide_eq_true_iff⟩

/-- Settles O9: both are a branch on the flag, or on its complement, when the unit is present; the absent unit is tested first. -/
theorem conditionFlagBranches : Obligations.ConditionFlagBranches := by
  intro cc imm s
  refine ⟨fun hfpu hbd => ⟨?bc1f, ?bc1t⟩, fun hfpu => ⟨?bc1f_absent, ?bc1t_absent⟩⟩
  case bc1f => exact executes_of_branchFp hfpu hbd (bc1Word_eq ..) rfl (iff_of_eq (Bool.not_eq_true' _))
  case bc1t => exact executes_of_branchFp hfpu hbd (bc1Word_eq ..) rfl Iff.rfl
  case bc1f_absent => exact executes_of_branchFp_absent hfpu (bc1Word_eq ..) rfl
  case bc1t_absent => exact executes_of_branchFp_absent hfpu (bc1Word_eq ..) rfl

end Sys2Proof.Machine

/-! PROOFS. The jump instructions (spec/44_jump.md). Each is a transfer always taken: it goes to its target, and `jal` and `jalr`
link on the way. -/

namespace Sys2Proof.Machine

/-! ### A transfer always taken -/

section Executes

variable {w : Word} {i : Instr} {s : State} {a : Word}

/-- Outside a delay slot, an instruction that is refused in one answers what is left of its meaning (R30). -/
theorem exec_of_outside_slot {r : Result} (hbd : s.bd = false)
    (hexec : exec i s = if s.bd then .refused .transferInDelaySlot else r) : exec i s = r :=
  hexec.trans (if_neg (by simp [hbd]))

/-- An instruction that is a jump (R191, R193). -/
theorem executes_of_jump (hbd : s.bd = false) (hw : w = encode i)
    (hexec : exec i s = if s.bd then .refused .transferInDelaySlot else .next (s.transfer true a)) :
    Executes w i s (Goes True a s) :=
  executes_of_next hw (exec_of_outside_slot hbd hexec) (eq_self true ▸ s.transfer_goes true a)

/-- An instruction that, nothing refusing it, is a jump that links (R192, R194). -/
theorem executes_of_jumpLink {r : Reg} (hw : w = encode i)
    (hexec : exec i s = .next ((s.writeX r s.linkAddr).transfer true a)) : Executes w i s (GoesLinking r True a s) :=
  executes_of_next hw hexec (eq_self true ▸ s.transfer_goesLinking r true a)

end Executes

/-! ### The statement -/

/-- Settles O10: all four are jumps; two of them link, and for `jalr` the case `rd` = `rs` is refused first. -/
theorem jumps : Obligations.Jumps := by
  intro address rd rs s hbd
  refine ⟨executes_of_jump hbd (jWord_eq ..) rfl, ?jal, executes_of_jump hbd rfl rfl, ?jalr⟩
  case jal => exact executes_of_jumpLink (jWord_eq ..) (exec_of_outside_slot hbd rfl)
  case jalr =>
    have hexec : exec (.jalr rd rs) s =
        if rd = rs then .refused .linkClash else .next ((s.writeX rd s.linkAddr).transfer true (s.readX rs)) :=
      exec_of_outside_slot hbd rfl
    by_cases hclash : rd = rs
    · rw [if_pos hclash]; exact ⟨decode_of_eq_encode rfl, hexec.trans (if_pos hclash)⟩
    · rw [if_neg hclash]; exact executes_of_jumpLink rfl (hexec.trans (if_neg hclash))

end Sys2Proof.Machine

/-! PROOFS. The trap and system instructions (spec/45_trap.md). A trap is the model's conditional trap on the condition that its
rule states; `mfc0`, `mtc0` and `eret` raise Coprocessor Unimplemented in user mode, and what each does in kernel mode is said
once as a lemma of its own. -/

namespace Sys2Proof.Machine

/-! ### The conditions of the traps, as their rules state them -/

/-- The condition of `tlt` (R207). -/
theorem signedLt_iff {a b : Word} : signedLt a b = true ↔ a.toInt < b.toInt := decide_eq_true_iff

/-- The condition of `tltu` (R208). -/
theorem unsignedLt_iff {a b : Word} : unsignedLt a b = true ↔ a.toNat < b.toNat := decide_eq_true_iff

/-- The condition of `tge` (R205). -/
theorem not_signedLt_iff {a b : Word} : (!signedLt a b) = true ↔ a.toInt ≥ b.toInt := by
  rw [Bool.not_eq_true', ← Bool.not_eq_true, signedLt_iff, not_lt]

/-- The condition of `tgeu` (R206). -/
theorem not_unsignedLt_iff {a b : Word} : (!unsignedLt a b) = true ↔ a.toNat ≥ b.toNat := by
  rw [Bool.not_eq_true', ← Bool.not_eq_true, unsignedLt_iff, not_lt]

/-! ### The coprocessor-0 registers as words -/

/-- Two fields side by side, as a number: the upper one counts multiples of the lower one's range (R6). -/
theorem toNat_append_eq_add {m n : Nat} (x : BitVec m) (y : BitVec n) : (x ++ y).toNat = x.toNat * 2 ^ n + y.toNat := by
  rw [BitVec.toNat_append, ← Nat.shiftLeft_add_eq_or_of_lt y.isLt, Nat.shiftLeft_eq]

/-- `Status` read as a word: each drawn field at its lowest bit (R38). -/
theorem Status.toWord_eq (st : Status) :
    st.toWord = BitVec.ofNat 32 (st.im.toNat * 2 ^ 8 + st.um.toNat * 2 ^ 4 + st.el.toNat * 2 + st.ie.toNat) := by
  have hfields : st.toWord.toNat = st.im.toNat * 2 ^ 8 + st.um.toNat * 2 ^ 4 + st.el.toNat * 2 + st.ie.toNat := by
    simp only [Status.toWord, toNat_append_eq_add, BitVec.toNat_ofBool, BitVec.toNat_ofNat]; omega
  rw [← hfields, BitVec.ofNat_toNat, BitVec.setWidth_eq]

/-- `Cause` read as a word, with the pending lines in `IP` (R37). -/
theorem Cause.toWord_eq (c : Cause) (ip : BitVec 8) :
    c.toWord ip = BitVec.ofNat 32 (c.bd.toNat * 2 ^ 31 + ip.toNat * 2 ^ 8 + c.excCode.toNat * 2 ^ 2) := by
  have hfields : (c.toWord ip).toNat = c.bd.toNat * 2 ^ 31 + ip.toNat * 2 ^ 8 + c.excCode.toNat * 2 ^ 2 := by
    simp only [Cause.toWord, toNat_append_eq_add, BitVec.toNat_ofBool, BitVec.toNat_ofNat]; omega
  rw [← hfields, BitVec.ofNat_toNat, BitVec.setWidth_eq]

/-- The numbers R42 describes. -/
theorem cp0Described_iff {n : BitVec 5} : cp0Described n = true ↔ n = 8#5 ∨ n = 12#5 ∨ n = 13#5 ∨ n = 14#5 := by
  simp [cp0Described, or_assoc]

/-! ### What the coprocessor-0 instructions do in kernel mode -/

/-- A register write after a draw: the count of free values also moves (R10, R211). -/
theorem State.drawn_putX_frame (s : State) (r : Reg) (v : Word) :
    KeepsAllBut [.gpr, .draws] s (s.drawn.putX r v) ∧ GprWrite r v s (s.drawn.putX r v) ∧ GoesOn s (s.drawn.putX r v) := by
  refine ⟨fun p hp => ?_, fun q => by simp, by simp [GoesOn]⟩
  cases p <;> simp_all [Part.same]

/-- A write of `Status` sets its drawn bits and nothing else (R212). -/
theorem State.writeCp0_status_frame (s : State) (v : Word) :
    KeepsAllBut [.status] s (s.writeCp0 12#5 v).advance ∧ GoesOn s (s.writeCp0 12#5 v).advance ∧
      (s.writeCp0 12#5 v).advance.status = Status.ofWord v := by
  refine ⟨fun p hp => ?_, by simp [GoesOn], by simp⟩
  cases p <;> simp_all [Part.same]

/-- A write of `EPC` leaves `Cause` and `BadVAddr` (R212). -/
theorem State.writeCp0_epc_frame (s : State) (v : Word) :
    KeepsAllBut [.excRegs] s (s.writeCp0 14#5 v).advance ∧ GoesOn s (s.writeCp0 14#5 v).advance ∧
      (s.writeCp0 14#5 v).advance.cause = s.cause ∧ (s.writeCp0 14#5 v).advance.badVAddr = s.badVAddr ∧
      (s.writeCp0 14#5 v).advance.epc = v := by
  refine ⟨fun p hp => ?_, by simp [GoesOn], by simp, by simp, by simp⟩
  cases p <;> simp_all [Part.same]

/-- A write of any other number is ignored (R212). -/
theorem State.writeCp0_of_ignored {n : BitVec 5} (hstatus : n ≠ 12#5) (hepc : n ≠ 14#5) (s : State) (v : Word) :
    s.writeCp0 n v = s := by
  rw [State.writeCp0, if_neg hstatus, if_neg hepc]

/-- An exception return clears `EL` and `LLbit` and moves control to `EPC`; `LLaddr` and the rest stay (R213). -/
theorem State.exceptionReturn_frame (s : State) :
    KeepsAllBut [.status, .link] s s.exceptionReturn ∧ s.exceptionReturn.status = { s.status with el := false } ∧
      s.exceptionReturn.llBit = false ∧ s.exceptionReturn.llAddr = s.llAddr ∧ s.exceptionReturn.pc = s.epc ∧
      s.exceptionReturn.npc = s.epc + 4#32 ∧ s.exceptionReturn.bd = false := by
  refine ⟨fun p hp => ?_, rfl, rfl, rfl, rfl, rfl, rfl⟩
  cases p <;> simp_all [Part.same]

/-! ### From an instruction's operation to what its word executes -/

section Executes

variable {w : Word} {i : Instr} {s u : State}

/-- An instruction that is a conditional trap (R200); `c` is the condition as it computes it, `p` as its rule states it. -/
theorem executes_of_trapIf {c : Bool} {p : Prop} (hw : w = encode i) (hexec : exec i s = s.trapIf c) (hc : c = true ↔ p) :
    Executes w i s (TrapsIf p s) := by
  obtain ⟨t, hnext, htraps⟩ := s.trapIf_traps c
  exact executes_of_next hw (hexec.trans hnext) (propext hc ▸ htraps)

/-- An instruction that is only for kernel mode: Coprocessor Unimplemented in user mode (R43), else the next state `u`. -/
theorem executes_of_kernelOnly {post : State → Prop} (hw : w = encode i)
    (hexec : exec i s = .next (if s.userMode then s.raise .coprocessorUnimplemented else u)) (hpost : post u) :
    Executes w i s (fun t => if InUserMode s then Entered 11#5 none s t else post t) := by
  refine executes_of_next hw hexec ?_
  by_cases huser : InUserMode s
  · rw [if_pos huser, if_pos (s.userMode_iff.2 huser)]; exact s.raise_entered .coprocessorUnimplemented
  · rw [if_neg huser, if_neg (mt s.userMode_iff.1 huser)]; exact hpost

end Executes

/-! ### The statements -/

/-- Settles O15: the delay slot is tested before the mode, and in kernel mode `eret` is the exception return. -/
theorem exceptionReturn : Obligations.ExceptionReturn := by
  intro s
  by_cases hbd : s.bd = true
  · rw [if_pos hbd]; exact ⟨decode_of_eq_encode rfl, if_pos hbd⟩
  · rw [if_neg hbd]; exact executes_of_kernelOnly rfl (if_neg hbd) s.exceptionReturn_frame

/-- Settles O12: the eight traps are one operation, each on its own condition; `syscall` asks the parameter first, `break`
nothing. -/
theorem trapsSyscallAndBreak : Obligations.TrapsSyscallAndBreak := by
  intro rs rt code code20 imm s
  rw [← signExtImm_eq imm]
  refine ⟨executes_of_trapIf (trapWord_eq ..) rfl beq_iff_eq, executes_of_trapIf (trapWord_eq ..) rfl bne_iff_ne,
    executes_of_trapIf (trapWord_eq ..) rfl not_signedLt_iff, executes_of_trapIf (trapWord_eq ..) rfl not_unsignedLt_iff,
    executes_of_trapIf (trapWord_eq ..) rfl signedLt_iff, executes_of_trapIf (trapWord_eq ..) rfl unsignedLt_iff,
    executes_of_trapIf (iWord_eq ..) rfl beq_iff_eq, executes_of_trapIf (iWord_eq ..) rfl bne_iff_ne,
    fun hguest => ?syscall, fun hhost => ?hostCall, ?brk⟩
  case syscall => exact executes_of_next (codeWord_eq ..) (if_neg (by simp [hguest])) (s.raise_entered .syscall)
  case hostCall => exact ⟨decode_of_eq_encode (codeWord_eq ..), if_pos hhost⟩
  case brk => exact executes_of_next (codeWord_eq ..) rfl (s.raise_entered .breakpoint)

/-- Settles O13: in kernel mode a described number is a register write of that register's value, any other number a write of a
free value. -/
theorem moveFromControl : Obligations.MoveFromControl := by
  intro rt rd s
  refine executes_of_kernelOnly (cop0Word_eq ..) rfl ?_
  by_cases hbad : rd = 8#5
  · subst hbad; exact s.putX_writesX rt s.badVAddr
  rw [if_neg hbad]
  by_cases hstatus : rd = 12#5
  · subst hstatus; rw [if_pos rfl, ← Status.toWord_eq]; exact s.putX_writesX rt s.status.toWord
  rw [if_neg hstatus]
  by_cases hcause : rd = 13#5
  · subst hcause; rw [if_pos rfl, ← Cause.toWord_eq]; exact s.putX_writesX rt (s.cause.toWord s.pending)
  rw [if_neg hcause]
  by_cases hepc : rd = 14#5
  · subst hepc; exact s.putX_writesX rt s.epc
  rw [if_neg hepc]
  have hother : ¬cp0Described rd = true := by simp [cp0Described_iff, hbad, hstatus, hcause, hepc]
  rw [if_neg hother]
  exact ⟨_, s.drawn_putX_frame rt _⟩

/-- Settles O14: in kernel mode the write reaches `Status`, or `EPC`, or nothing. -/
theorem moveToControl : Obligations.MoveToControl := by
  intro rt rd s
  refine executes_of_kernelOnly (cop0Word_eq ..) rfl ?_
  by_cases hstatus : rd = 12#5
  · subst hstatus; exact s.writeCp0_status_frame (s.readX rt)
  rw [if_neg hstatus]
  by_cases hepc : rd = 14#5
  · subst hepc; exact s.writeCp0_epc_frame (s.readX rt)
  rw [if_neg hepc, State.writeCp0_of_ignored hstatus hepc]
  exact s.advance_writesNothing

end Sys2Proof.Machine

/-! PROOFS. The integer loads and stores and the atomic pair (spec/46_load_store.md). Each is the checks of its access (R225) and
then one register write or one store; `sc` makes its bus check only when the pair is atomic, so its address checks stand alone. -/

namespace Sys2Proof.Machine

/-! ### The values loaded and the bytes stored -/

/-- A byte zero-extended has 24 zeros before it (R218). -/
theorem zext32_byte (b : Byte) : zext32 b = 0#24 ++ b := BitVec.setWidth_eq_append (by decide)

/-- A halfword zero-extended has 16 zeros before its two bytes (R220). -/
theorem zext32_halfOfBytes (b0 b1 : Byte) : zext32 (halfOfBytes b0 b1) = 0#16 ++ b0 ++ b1 :=
  (zeroExtImm_eq (b0 ++ b1)).trans (BitVec.append_assoc (x₁ := 0#16) (x₂ := b0) (x₃ := b1)).symm

/-- The two bytes of the low halfword of a word (R223). -/
theorem halfByte_low (v : Word) :
    [halfByte (v.extractLsb' 0 16) 0, halfByte (v.extractLsb' 0 16) 1] = [v.extractLsb' 8 8, v.extractLsb' 0 8] := by
  rw [halfByte, halfByte, BitVec.extractLsb'_extractLsb'_of_le (by decide), BitVec.extractLsb'_extractLsb'_of_le (by decide)]

/-! ### What `ll` and `sc` leave when their checks pass -/

/-- The register write and the link of `ll` (R228). -/
theorem State.setLink_putX_frame (s : State) (a : Word) (r : Reg) (v : Word) :
    KeepsAllBut [.gpr, .link] s ((s.setLink a).putX r v) ∧ GprWrite r v s ((s.setLink a).putX r v) ∧
      ((s.setLink a).putX r v).llBit = true ∧ ((s.setLink a).putX r v).llAddr = a ∧ GoesOn s ((s.setLink a).putX r v) := by
  refine ⟨fun p hp => ?_, fun q => by simp, by simp, by simp, by simp [GoesOn]⟩
  cases p <;> simp_all [Part.same]

/-- An `sc` that fails writes 0 and clears the link (R229). -/
theorem State.clearLink_putX_scFails (s : State) (rt : Reg) : ScFails rt s (s.clearLink.putX rt 0#32) := by
  refine ⟨fun p hp => ?_, fun q => by simp, by simp, by simp, by simp [GoesOn]⟩
  cases p <;> simp_all [Part.same]

/-- The bus check and, when it passes, the store, the 1 and the cleared link of an `sc` that succeeds (R229). -/
theorem State.writeWord_scSucceeds (s : State) (rt : Reg) (a : Word) :
    ScSucceeds rt a s (if s.backed a 4 then (s.writeWord a (s.readX rt)).clearLink.putX rt 1#32
      else s.raise .busErrorData) := by
  by_cases hk : Backed s a 4
  · rw [ScSucceeds, if_neg (not_not.2 hk), if_pos ((s.backed_iff a 4).2 hk)]
    refine ⟨fun p hp => ?_, fun q => by simp, fun q => ?_, by simp, by simp, by simp [GoesOn]⟩
    · cases p <;> simp_all [Part.same]
    · rw [State.putX_readByte, State.clearLink_readByte, State.readByte_writeWord_stored]
  · rw [ScSucceeds, if_pos hk, if_neg (mt (s.backed_iff a 4).1 hk)]
    exact s.raise_entered .busErrorData

/-! ### The atomic condition of `sc` (R229) -/

/-- With no link, or one to another address, the condition fails, whatever the implementation says. -/
theorem State.scSucceeds_of_not_linked {s : State} {a : Word} (h : s.llBit = false ∨ a ≠ s.llAddr) :
    s.scSucceeds a = false := by
  obtain h | h := h <;> simp [State.scSucceeds, h]

/-- Linked to the address, the condition is what the implementation says. -/
theorem State.scSucceeds_of_linked {s : State} {a : Word} (h : ¬(s.llBit = false ∨ a ≠ s.llAddr)) :
    s.scSucceeds a = s.scAgrees := by
  obtain ⟨hbit, haddr⟩ : s.llBit = true ∧ a = s.llAddr := by simpa using h
  simp [State.scSucceeds, hbit, haddr]

/-- The implementation may say no only under `SC_MAY_FAIL`. -/
theorem State.scAgrees_of_not_mayFail {s : State} (h : ¬s.params.scMayFail = true) : s.scAgrees = true := if_neg h

/-- A draw does not change what `MEM_MAP` backs. -/
theorem State.scDrawn_backed (s : State) (a : Word) (n : Nat) : s.scDrawn.backed a n = s.backed a n := by
  simp only [State.backed, State.scDrawn_params]

/-- What `sc` at the address leaves when its address checks pass (`exec_sc`). -/
def State.scOutcome (s : State) (rt : Reg) (a : Word) : State :=
  if s.scSucceeds a then
    if s.backed a 4 then (s.scDrawn.writeWord a (s.readX rt)).clearLink.putX rt 1#32
    else s.scDrawn.raise .busErrorData
  else s.scDrawn.clearLink.putX rt 0#32

/-- `sc` is its address checks and then the outcome (R225, R229). -/
theorem exec_sc (rt : Reg) (imm : BitVec 16) (rs : Reg) (s : State) :
    exec (.sc rt imm rs) s =
      .next (s.orRaise (s.addressFault .store 4 (dataAddr s rs imm)) (s.scOutcome rt (dataAddr s rs imm))) := rfl

/-- Under the atomic condition the outcome is a success, after the draw. -/
theorem State.scOutcome_scSucceeds {s : State} {a : Word} (h : s.scSucceeds a = true) (rt : Reg) :
    ScSucceeds rt a s.scDrawn (s.scOutcome rt a) := by
  have hstored := s.scDrawn.writeWord_scSucceeds rt a
  rw [State.scDrawn_backed, State.scDrawn_readX] at hstored
  rw [State.scOutcome, if_pos h]
  exact hstored

/-- Without the atomic condition the outcome is a failure, after the draw. -/
theorem State.scOutcome_scFails {s : State} {a : Word} (h : s.scSucceeds a = false) (rt : Reg) :
    ScFails rt s.scDrawn (s.scOutcome rt a) := by
  rw [State.scOutcome, if_neg (by simp [h])]
  exact s.scDrawn.clearLink_putX_scFails rt

/-! ### From an instruction's checks to what its word executes -/

section Executes

variable {w : Word} {i : Instr} {s k : State} {n : Nat} {a : Word}

/-- An instruction that is the checks of an access and then `k` (R225). -/
theorem executes_of_access {acc : Access} {done : State → Prop} (hw : w = encode i)
    (hexec : exec i s = .next (s.orRaise (s.accessFault acc n a) k)) (hdone : done k) :
    Executes w i s (fun t => Accesses (acc.addressError a).code n a s t (done t)) :=
  executes_of_next hw hexec (s.accessFault_accesses acc n a k done hdone)

/-- An instruction that is the first two checks of an access, alignment and user segment, and then `k` (R225). -/
theorem executes_of_addressChecks {acc : Access} {post : State → Prop} (hw : w = encode i)
    (hexec : exec i s = .next (s.orRaise (s.addressFault acc n a) k)) (hpost : post k) :
    Executes w i s (fun t => if a.toNat % n ≠ 0 then Entered (acc.addressError a).code (some a) s t
      else if Barred s a then Entered (acc.addressError a).code (some a) s t else post t) := by
  refine executes_of_next hw hexec ?_
  have hbad : (acc.addressError a).badAddr = some a := by cases acc <;> rfl
  have hentered := s.raise_entered (acc.addressError a)
  rw [hbad] at hentered
  unfold State.addressFault
  by_cases halign : a.toNat % n ≠ 0
  · rw [if_pos halign, if_pos halign]; exact hentered
  rw [if_neg halign, if_neg halign]
  by_cases hbarred : Barred s a
  · rw [if_pos hbarred, if_pos ((s.segmentBarred_iff a).2 hbarred)]; exact hentered
  · rw [if_neg hbarred, if_neg (mt (s.segmentBarred_iff a).1 hbarred)]; exact hpost

/-- An instruction that is a load (R217 to R221). -/
theorem executes_of_load {rt : Reg} {v : Word} (hw : w = encode i)
    (hexec : exec i s = .next (s.orRaise (s.accessFault .load n a) (s.putX rt v))) :
    Executes w i s (fun t => Accesses 4#5 n a s t (WritesX rt v s t)) :=
  executes_of_access (acc := .load) hw hexec (s.putX_writesX rt v)

/-- An instruction that is a store, leaving `k` before it goes on (R222 to R224). -/
theorem executes_of_store {bs : List Byte} (hw : w = encode i)
    (hexec : exec i s = .next (s.orRaise (s.accessFault .store n a) k.advance)) (hstores : Stores a bs s k.advance) :
    Executes w i s (fun t => Accesses 5#5 n a s t (Stores a bs s t)) :=
  executes_of_access (acc := .store) hw hexec hstores

end Executes

/-! ### The statements -/

/-- Settles O16: each is a load of the bytes at the address, joined and extended as the model does. -/
theorem integerLoads : Obligations.IntegerLoads := by
  intro rt rs imm s a
  rw [← zext32_byte, ← zext32_halfOfBytes]
  exact ⟨executes_of_load (iWord_eq ..) rfl, executes_of_load (iWord_eq ..) rfl, executes_of_load (iWord_eq ..) rfl,
    executes_of_load (iWord_eq ..) rfl, executes_of_load (iWord_eq ..) rfl⟩

/-- Settles O17: each is a store of the low part of the register. -/
theorem integerStores : Obligations.IntegerStores := by
  intro rt rs imm s a v
  rw [← halfByte_low]
  exact ⟨executes_of_store (iWord_eq ..) rfl (s.writeByte_stores a _),
    executes_of_store (iWord_eq ..) rfl (s.writeHalf_stores a _),
    executes_of_store (iWord_eq ..) rfl (s.writeWord_stores a v)⟩

/-- Settles O18: a word load that, its checks passed, also makes the link. -/
theorem loadLinked : Obligations.LoadLinked := by
  intro rt rs imm s a
  exact executes_of_access (acc := .load) (iWord_eq ..) rfl (s.setLink_putX_frame a rt (s.readWord a))

/-- Settles O19: after the address checks, the link decides, and after it the implementation's say, which only `SC_MAY_FAIL` makes
free. -/
theorem storeConditional : Obligations.StoreConditional := by
  intro rt rs imm s a u
  refine executes_of_addressChecks (acc := .store) (iWord_eq ..) (exec_sc rt imm rs s) ?_
  have hu : u = s.scDrawn := rfl
  rw [hu]
  by_cases hlink : s.llBit = false ∨ a ≠ s.llAddr
  · rw [if_pos hlink]
    exact State.scOutcome_scFails (State.scSucceeds_of_not_linked hlink) rt
  rw [if_neg hlink]
  have hsay : s.scSucceeds a = s.scAgrees := State.scSucceeds_of_linked hlink
  by_cases hmay : s.params.scMayFail = true
  · rw [if_pos hmay]
    cases hagrees : s.scAgrees with
    | false => exact .inl (State.scOutcome_scFails (hsay.trans hagrees) rt)
    | true => exact .inr (State.scOutcome_scSucceeds (hsay.trans hagrees) rt)
  · rw [if_neg hmay]
    exact State.scOutcome_scSucceeds (hsay.trans (State.scAgrees_of_not_mayFail hmay)) rt

end Sys2Proof.Machine

/-! PROOFS. Multiply, divide and the `HI`/`LO` registers (spec/47_multiply_divide.md). Each instruction is one write of `HI` and
`LO`, a register write, or a division by zero. The halves of a product are joined again; the quotient and remainder are the
library's operations on words, whose values it gives. -/

namespace Sys2Proof.Machine

/-! ### Products -/

/-- The two words of a double, side by side, are the double (R241). -/
theorem highWord_append_lowWord (p : DWord) : p.extractLsb' 32 32 ++ p.extractLsb' 0 32 = p :=
  (BitVec.extractLsb'_append_extractLsb'_eq_extractLsb' (x := p) rfl).trans BitVec.extractLsb'_eq_self

/-- A signed product of two words fits in 64 bits (R241). -/
theorem toInt_signedProduct (a b : Word) : (BitVec.ofInt 64 (a.toInt * b.toInt)).toInt = a.toInt * b.toInt := by
  have hlow : -2 ^ 62 ≤ a.toInt * b.toInt := BitVec.le_toInt_mul_toInt
  have hhigh : a.toInt * b.toInt ≤ 2 ^ 62 := BitVec.toInt_mul_toInt_le
  exact BitVec.toInt_ofInt_eq_self (by decide) (by omega) (by omega)

/-- An unsigned product of two words fits in 64 bits (R242). -/
theorem toNat_unsignedProduct (a b : Word) : (BitVec.ofNat 64 (a.toNat * b.toNat)).toNat = a.toNat * b.toNat :=
  (BitVec.toNat_ofNat ..).trans (Nat.mod_eq_of_lt BitVec.toNat_mul_toNat_lt)

/-! ### Quotients and remainders -/

/-- The model's signed remainder is the library's (R243). -/
theorem ofInt_tmod_eq_srem (a b : Word) : BitVec.ofInt 32 (a.toInt.tmod b.toInt) = a.srem b := by
  rw [← BitVec.toInt_srem, BitVec.ofInt_toInt]

/-- The model's signed quotient is the library's, which wraps as the model's does (R243). -/
theorem ofInt_tdiv_eq_sdiv (a b : Word) : BitVec.ofInt 32 (a.toInt.tdiv b.toInt) = a.sdiv b := by
  apply BitVec.eq_of_toInt_eq
  rw [BitVec.toInt_sdiv, BitVec.toInt_ofInt]

/-- Outside the overflow pair, signed division is exact with its remainder (R243). -/
theorem toInt_eq_sdiv_mul_add_srem {a b : Word} (h : ¬(a = 0x80000000#32 ∧ b = 0xffffffff#32)) :
    a.toInt = (a.sdiv b).toInt * b.toInt + (a.srem b).toInt := by
  have hfits : (a.sdiv b).toInt = a.toInt.tdiv b.toInt := BitVec.toInt_sdiv_of_ne_or_ne a b (not_and_or.1 h)
  rw [hfits, BitVec.toInt_srem, Int.tdiv_mul_add_tmod]

/-- The signed remainder is smaller than the divisor (R243). -/
theorem abs_toInt_srem_lt (a : Word) {b : Word} (hb : b ≠ 0#32) : |(a.srem b).toInt| < |b.toInt| := by
  have hpos : 0 < b.toInt.natAbs := Int.natAbs_pos.2 fun hzero => hb (BitVec.eq_of_toInt_eq hzero)
  rw [BitVec.toInt_srem, Int.abs_eq_natAbs, Int.abs_eq_natAbs, Int.natAbs_tmod]
  exact_mod_cast Nat.mod_lt _ hpos

/-- The signed remainder is 0 or has the dividend's sign (R243). -/
theorem srem_zero_or_sign (a b : Word) : (a.srem b).toInt = 0 ∨ (a.srem b).toInt.sign = a.toInt.sign := by
  rw [BitVec.toInt_srem]
  by_cases hdvd : b.toInt ∣ a.toInt
  · exact .inl (Int.tmod_eq_zero_of_dvd hdvd)
  · exact .inr (by rw [Int.sign_tmod, if_neg hdvd])

/-! ### The instructions -/

/-- `div` in the library's operations (R243). -/
theorem exec_div (rs rt : Reg) (s : State) :
    exec (.div rs rt) s = .next (if s.readX rt = 0#32 then s.divideByZero
      else s.putHiLo ((s.readX rs).srem (s.readX rt)) ((s.readX rs).sdiv (s.readX rt))) := by
  rw [← ofInt_tmod_eq_srem, ← ofInt_tdiv_eq_sdiv]; rfl

/-- `divu` in the library's operations (R244). -/
theorem exec_divu (rs rt : Reg) (s : State) :
    exec (.divu rs rt) s = .next (if s.readX rt = 0#32 then s.divideByZero
      else s.putHiLo (s.readX rs % s.readX rt) (s.readX rs / s.readX rt)) := by
  rw [BitVec.umod_def, BitVec.udiv_def]; rfl

/-- A division by zero changes `HI`, `LO` and the count of draws, and goes on (R243, R244). -/
theorem State.divideByZero_frame (s : State) : KeepsAllBut [.hiLo, .draws] s s.divideByZero ∧ GoesOn s s.divideByZero := by
  refine ⟨fun p hp => ?_, by simp [GoesOn]⟩
  cases p <;> simp_all [Part.same]

section Executes

variable {w : Word} {i : Instr} {s : State} {h l b : Word}

/-- An instruction that is one write of `HI` and `LO` (R240). -/
theorem executes_of_putHiLo (hw : w = encode i) (hexec : exec i s = .next (s.putHiLo h l)) :
    Executes w i s (WritesHiLo h l s) :=
  executes_of_next hw hexec (s.putHiLo_writesHiLo h l)

/-- An instruction that leaves the words of a double in `HI` and `LO`; `good` is what its rule says of the double (R241, R242). -/
theorem executes_of_putProduct {p : DWord} {good : DWord → Prop} (hw : w = encode i)
    (hexec : exec i s = .next (s.putHiLo (p.extractLsb' 32 32) (p.extractLsb' 0 32))) (hgood : good p) :
    Executes w i s (fun t => ∃ h l, WritesHiLo h l s t ∧ good (h ++ l)) :=
  executes_of_next hw hexec ⟨_, _, s.putHiLo_writesHiLo _ _, (highWord_append_lowWord p).symm ▸ hgood⟩

/-- An instruction that divides by `b`: by zero the draws, else a write of `HI` and `LO` (R243, R244). -/
theorem executes_of_divide {post : State → Prop} (hw : w = encode i)
    (hexec : exec i s = .next (if b = 0#32 then s.divideByZero else s.putHiLo h l))
    (hpost : b ≠ 0#32 → post (s.putHiLo h l)) :
    Executes w i s (fun t => if b = 0#32 then KeepsAllBut [.hiLo, .draws] s t ∧ GoesOn s t else post t) := by
  refine executes_of_next hw hexec ?_
  by_cases hb : b = 0#32
  · rw [if_pos hb, if_pos hb]; exact s.divideByZero_frame
  · rw [if_neg hb, if_neg hb]; exact hpost hb

end Executes

/-! ### The statements -/

/-- Settles O21: the multiplies leave the words of their exact product, the moves are one write each. -/
theorem multipliesAndHiLoMoves : Obligations.MultipliesAndHiLoMoves := by
  intro rd rs rt s
  refine ⟨?mult, ?multu, executes_of_putX rfl rfl, executes_of_putX rfl rfl, executes_of_putHiLo rfl rfl,
    executes_of_putHiLo rfl rfl⟩
  case mult =>
    exact executes_of_putProduct (good := fun p => p.toInt = (s.readX rs).toInt * (s.readX rt).toInt) rfl rfl
      (toInt_signedProduct (s.readX rs) (s.readX rt))
  case multu =>
    exact executes_of_putProduct (good := fun p => p.toNat = (s.readX rs).toNat * (s.readX rt).toNat) rfl rfl
      (toNat_unsignedProduct (s.readX rs) (s.readX rt))

/-- Settles O22: by a divisor other than zero, the written pair is the overflow pair or obeys the laws of division. -/
theorem divides : Obligations.Divides := by
  intro rs rt s
  refine ⟨executes_of_divide rfl (exec_div rs rt s) fun hb => ?div,
    executes_of_divide rfl (exec_divu rs rt s) fun hb => ?divu⟩
  case div =>
    by_cases hover : s.readX rs = 0x80000000#32 ∧ s.readX rt = 0xffffffff#32
    · obtain ⟨hleast, hminusOne⟩ := hover
      have hrem : (s.readX rs).srem (s.readX rt) = 0#32 := by rw [hleast, hminusOne]; decide
      have hquot : (s.readX rs).sdiv (s.readX rt) = 0x80000000#32 := by rw [hleast, hminusOne]; decide
      rw [if_pos ⟨hleast, hminusOne⟩, hrem, hquot]
      exact s.putHiLo_writesHiLo 0#32 0x80000000#32
    · rw [if_neg hover]
      exact ⟨_, _, s.putHiLo_writesHiLo _ _, toInt_eq_sdiv_mul_add_srem hover, abs_toInt_srem_lt _ hb, srem_zero_or_sign _ _⟩
  case divu =>
    have hexact : (s.readX rs).toNat = (s.readX rs / s.readX rt).toNat * (s.readX rt).toNat +
        (s.readX rs % s.readX rt).toNat := by
      rw [BitVec.toNat_udiv, BitVec.toNat_umod, Nat.div_add_mod']
    exact ⟨_, _, s.putHiLo_writesHiLo _ _, hexact, BitVec.umod_lt _ ((BitVec.pos_iff_ne_zero _).2 hb)⟩

end Sys2Proof.Machine

/-! PROOFS. The values of floating-point patterns (spec/48_floating_point.md R255): the value of a dyadic number as a rational,
what each operation on dyadic numbers does to it, and the normalised pattern that a value has. -/

namespace Sys2Proof.Machine

/-! ### Scaled naturals -/

/-- Of two equal scaled naturals, one at least `2^i` and one below `2^j` before scaling bound the scales. -/
theorem scale_lt_of_scaled_eq {a b i j : ℕ} {p q : ℤ} (h : (a : ℚ) * 2 ^ p = b * 2 ^ q) (ha : 2 ^ i ≤ a) (hb : b < 2 ^ j) :
    i + p < j + q := by
  have hlow : (2 : ℚ) ^ (i + p) ≤ a * 2 ^ p := by
    rw [zpow_add₀ two_ne_zero, zpow_natCast]
    exact mul_le_mul_of_nonneg_right (mod_cast ha) (zpow_nonneg zero_le_two p)
  have hhigh : b * (2 : ℚ) ^ q < 2 ^ (j + q) := by
    rw [zpow_add₀ two_ne_zero, zpow_natCast]
    exact mul_lt_mul_of_pos_right (mod_cast hb) (zpow_pos two_pos q)
  exact (zpow_lt_zpow_iff_right₀ one_lt_two).1 (hlow.trans_lt (h.trans_lt hhigh))

/-- Equal scaled naturals are equal in a common unit. -/
theorem mul_two_pow_eq_of_scaled_eq {a b : ℕ} {p q : ℤ} (h : (a : ℚ) * 2 ^ p = b * 2 ^ q) {i j : ℕ} (hij : i + q = j + p) :
    a * 2 ^ i = b * 2 ^ j := by
  have hunit : (2 : ℚ) ^ q ≠ 0 := zpow_ne_zero q two_ne_zero
  have hscale : (2 : ℚ) ^ (i : ℤ) * 2 ^ q = 2 ^ (j : ℤ) * 2 ^ p := by
    rw [← zpow_add₀ two_ne_zero, ← zpow_add₀ two_ne_zero, hij]
  have hq : ((a * 2 ^ i : ℕ) : ℚ) * 2 ^ q = (b * 2 ^ j : ℕ) * 2 ^ q := by
    push_cast
    rw [← zpow_natCast, ← zpow_natCast]
    linear_combination (a : ℚ) * hscale + 2 ^ (j : ℤ) * h
  exact_mod_cast mul_right_cancel₀ hunit hq

/-! ### Dyadic numbers -/

/-- The value of a dyadic number. -/
def Dyad.val (x : Dyad) : ℚ := x.m * 2 ^ x.e

/-- In units of a power of 2 not above its own, a dyadic number is an integer. -/
theorem Dyad.scaled_mul {x : Dyad} {e : ℤ} (h : e ≤ x.e) : (x.scaled e : ℚ) * 2 ^ e = x.val := by
  have hsplit : (2 : ℚ) ^ (x.e - e).toNat * 2 ^ e = 2 ^ x.e := by
    rw [← zpow_natCast, ← zpow_add₀ two_ne_zero, Int.toNat_of_nonneg (by omega), sub_add_cancel]
  rw [Dyad.scaled, Dyad.val, ← hsplit, ← mul_assoc]
  push_cast; rfl

theorem Dyad.val_eq_zero_iff {x : Dyad} : x.val = 0 ↔ x.m = 0 := by
  have hunit : (2 : ℚ) ^ x.e ≠ 0 := zpow_ne_zero _ two_ne_zero
  simp [Dyad.val, hunit]

/-- The significand carries the sign. -/
theorem Dyad.val_neg_iff {x : Dyad} : x.val < 0 ↔ x.m < 0 := by
  have hunit : (0 : ℚ) < 2 ^ x.e := zpow_pos two_pos _
  rw [Dyad.val, mul_neg_iff, Int.cast_lt_zero]
  simp [hunit, hunit.not_gt]

@[simp] theorem Dyad.val_add (x y : Dyad) : (x.add y).val = x.val + y.val := by
  rw [← Dyad.scaled_mul (min_le_left x.e y.e), ← Dyad.scaled_mul (min_le_right x.e y.e), ← add_mul, ← Int.cast_add]
  rfl

@[simp] theorem Dyad.val_negate (x : Dyad) : x.negate.val = -x.val := by
  simp [Dyad.val, Dyad.negate]

@[simp] theorem Dyad.val_sub (x y : Dyad) : (x.sub y).val = x.val - y.val := by
  rw [Dyad.sub, Dyad.val_add, Dyad.val_negate, sub_eq_add_neg]

@[simp] theorem Dyad.val_mul (x y : Dyad) : (x.mul y).val = x.val * y.val := by
  simp only [Dyad.val, Dyad.mul, zpow_add₀ (two_ne_zero (α := ℚ)), Int.cast_mul]
  ring

/-- Comparing two dyadic numbers in a common unit compares their values. -/
theorem Dyad.lt_iff {x y : Dyad} : x.lt y = true ↔ x.val < y.val := by
  rw [← Dyad.scaled_mul (min_le_left x.e y.e), ← Dyad.scaled_mul (min_le_right x.e y.e),
    mul_lt_mul_iff_left₀ (zpow_pos two_pos _), Int.cast_lt]
  exact decide_eq_true_iff

theorem Dyad.eq_iff {x y : Dyad} : x.eq y = true ↔ x.val = y.val := by
  rw [← Dyad.scaled_mul (min_le_left x.e y.e), ← Dyad.scaled_mul (min_le_right x.e y.e),
    mul_left_inj' (zpow_ne_zero _ two_ne_zero), Int.cast_inj]
  exact decide_eq_true_iff

/-! ### The pattern of a value -/

theorem Fmt.normal_iff {F : Fmt} {v : ℕ} :
    F.normal v = true ↔ F.expField v ≠ 0 ∧ F.expField v ≠ 2 ^ F.expBits - 1 := by
  rw [Fmt.normal, Bool.and_eq_true, bne_iff_ne, bne_iff_ne]

/-- The `Fraction` field is one of `frac` bits. -/
theorem Fmt.fracField_lt (F : Fmt) (v : ℕ) : F.fracField v < 2 ^ F.frac := Nat.mod_lt _ (by positivity)

/-- The significand of a normalised pattern, an integer with leading bit `frac` (R255). -/
def Fmt.signif (F : Fmt) (v : ℕ) : ℕ := 2 ^ F.frac + F.fracField v

theorem Fmt.le_signif (F : Fmt) (v : ℕ) : 2 ^ F.frac ≤ F.signif v := Nat.le_add_right ..

theorem Fmt.signif_lt (F : Fmt) (v : ℕ) : F.signif v < 2 ^ (F.frac + 1) := by
  have := F.fracField_lt v
  rw [Fmt.signif, pow_succ]; omega

theorem Fmt.signif_pos (F : Fmt) (v : ℕ) : 0 < F.signif v := (by positivity : 0 < 2 ^ F.frac).trans_le (F.le_signif v)

theorem Fmt.dyad_m (F : Fmt) (v : ℕ) : (F.dyad v).m = (if F.neg v then -1 else 1) * (F.signif v : ℤ) := rfl

theorem Fmt.dyad_e (F : Fmt) (v : ℕ) : (F.dyad v).e = (F.expField v : ℤ) - F.bias - F.frac := rfl

theorem Fmt.natAbs_dyad_m (F : Fmt) (v : ℕ) : (F.dyad v).m.natAbs = F.signif v := by
  rw [F.dyad_m]; split <;> simp

theorem Fmt.dyad_m_neg_iff (F : Fmt) (v : ℕ) : (F.dyad v).m < 0 ↔ F.neg v = true := by
  have := F.signif_pos v
  rw [F.dyad_m]; split <;> simp_all

theorem Fmt.dyad_m_ne_zero (F : Fmt) (v : ℕ) : (F.dyad v).m ≠ 0 := by
  have := F.signif_pos v
  rw [← Int.natAbs_ne_zero, F.natAbs_dyad_m]; omega

/-- The model's dyadic number has the value of the pattern (R255). -/
theorem Fmt.val_dyad (F : Fmt) (v : ℕ) : (F.dyad v).val = F.value v := by
  have hsplit : (2 : ℚ) ^ (F.dyad v).e = 2 ^ ((F.expField v : ℤ) - F.bias) / 2 ^ F.frac := by
    rw [F.dyad_e, zpow_sub₀ two_ne_zero, zpow_natCast]
  have hsig : (F.signif v : ℚ) / 2 ^ F.frac = 1 + F.fracField v / 2 ^ F.frac := by
    rw [Fmt.signif]; push_cast; field_simp
  rw [Dyad.val, hsplit, F.dyad_m, Fmt.value, ← hsig]
  push_cast; ring

/-- A pattern is the sum of its three fields in place (R255). -/
theorem Fmt.fields_eq {F : Fmt} {v : ℕ} (h : v < 2 ^ (F.frac + F.expBits + 1)) :
    (if F.neg v then 2 ^ (F.frac + F.expBits) else 0) + F.expField v * 2 ^ F.frac + F.fracField v = v := by
  have hsign : (if F.neg v then 2 ^ (F.frac + F.expBits) else 0) = v / 2 ^ (F.frac + F.expBits) * 2 ^ (F.frac + F.expBits) := by
    have hlt : v / 2 ^ (F.frac + F.expBits) < 2 := Nat.div_lt_of_lt_mul (by rwa [pow_succ] at h)
    rw [Fmt.neg, Nat.mod_eq_of_lt hlt]
    interval_cases v / 2 ^ (F.frac + F.expBits) <;> simp
  have hexp : v / 2 ^ (F.frac + F.expBits) * 2 ^ F.expBits + F.expField v = v / 2 ^ F.frac := by
    rw [pow_add, ← Nat.div_div_eq_div_mul]; exact Nat.div_add_mod' ..
  calc _ = (v / 2 ^ (F.frac + F.expBits) * 2 ^ F.expBits + F.expField v) * 2 ^ F.frac + F.fracField v := by
        rw [hsign, pow_add]; ring
    _ = v := by rw [hexp]; exact Nat.div_add_mod' ..

/-- Magnitudes of equal values. -/
theorem Dyad.natAbs_scaled_eq {x y : Dyad} (h : x.val = y.val) :
    (x.m.natAbs : ℚ) * 2 ^ x.e = y.m.natAbs * 2 ^ y.e := by
  have habs := congrArg abs h
  simpa only [Dyad.val, abs_mul, abs_zpow, abs_two, ← Int.cast_abs, Int.abs_eq_natAbs, Int.cast_natCast] using habs

/-- A magnitude equal to a significand has its leading bit in the same place. -/
theorem Fmt.log2_add_eq {F : Fmt} {m r : ℕ} {e : ℤ} (hm : m ≠ 0)
    (h : (m : ℚ) * 2 ^ e = F.signif r * 2 ^ (F.dyad r).e) : m.log2 + e = F.frac + (F.dyad r).e := by
  have hle := scale_lt_of_scaled_eq h (Nat.log2_self_le hm) (F.signif_lt r)
  have hge := scale_lt_of_scaled_eq h.symm (F.le_signif r) Nat.lt_log2_self
  omega

/-- The `Exponent` field of a normalised pattern passes the test of `pack`. -/
theorem Fmt.expField_range {F : Fmt} {r : ℕ} (hn : F.normal r = true) :
    ¬(F.expField r < (1 : ℤ) ∨ (2 : ℤ) ^ F.expBits - 2 < F.expField r) := by
  have hlt : F.expField r < 2 ^ F.expBits := Nat.mod_lt _ (by positivity)
  obtain ⟨h0, h1⟩ := Fmt.normal_iff.1 hn
  have hcast : (2 : ℤ) ^ F.expBits = (2 ^ F.expBits : ℕ) := by push_cast; rfl
  rw [hcast]
  generalize 2 ^ F.expBits = n at *; omega

/-- A dyadic number that has the value of a normalised pattern packs into that pattern: the leading bits agree, which fixes the
`Exponent` field, and then the significands do. -/
theorem Fmt.pack_of_val {F : Fmt} {x : Dyad} {r : ℕ} (hn : F.normal r = true) (hr : r < 2 ^ (F.frac + F.expBits + 1))
    (hx : x.val = F.value r) : F.pack x = some r := by
  rw [← F.val_dyad] at hx
  have hneg : x.m < 0 ↔ F.neg r = true := by rw [← Dyad.val_neg_iff, hx, Dyad.val_neg_iff, F.dyad_m_neg_iff]
  have hzero : x.m.natAbs ≠ 0 := by
    rw [Int.natAbs_ne_zero, Ne, ← Dyad.val_eq_zero_iff, hx, Dyad.val_eq_zero_iff]; exact F.dyad_m_ne_zero r
  have hmag := Dyad.natAbs_scaled_eq hx
  rw [F.natAbs_dyad_m] at hmag
  have hlead := Fmt.log2_add_eq hzero hmag
  have hexpo : x.e + x.m.natAbs.log2 + F.bias = F.expField r := by rw [F.dyad_e] at hlead; omega
  have hresult : (if x.m < 0 then 2 ^ (F.frac + F.expBits) else 0) + F.expField r * 2 ^ F.frac +
      (F.signif r - 2 ^ F.frac) = r := by
    simp only [hneg, Fmt.signif, Nat.add_sub_cancel_left, F.fields_eq hr]
  simp only [Fmt.pack, hexpo, if_neg hzero, if_neg (Fmt.expField_range hn), Int.toNat_natCast]
  generalize x.m.natAbs = mag at *
  by_cases hk : mag.log2 ≤ F.frac
  · have hsig : mag * 2 ^ (F.frac - mag.log2) = F.signif r := by
      simpa using mul_two_pow_eq_of_scaled_eq hmag (i := F.frac - mag.log2) (j := 0) (by omega)
    rw [if_neg (by omega), if_pos hk, hsig, hresult]
  · have hsig : F.signif r * 2 ^ (mag.log2 - F.frac) = mag := by
      simpa using mul_two_pow_eq_of_scaled_eq hmag.symm (i := mag.log2 - F.frac) (j := 0) (by omega)
    have hexact : mag % 2 ^ (mag.log2 - F.frac) = 0 := Nat.mod_eq_zero_of_dvd (Dvd.intro_left _ hsig)
    have hquot : mag / 2 ^ (mag.log2 - F.frac) = F.signif r := Nat.div_eq_of_eq_mul_left (by positivity) hsig.symm
    rw [if_neg (by simp [hexact]), if_neg hk, hquot, hresult]

/-! ### Quotients and square roots (R265, R275) -/

/-- A division that comes out even has the value of the quotient. -/
theorem Dyad.div_of_dvd {F : Fmt} {x y : Dyad} (hy : y.m ≠ 0) (h : y.m ∣ x.m * 2 ^ (F.frac + 1)) :
    ∃ q, x.div F y = some q ∧ q.val = x.val / y.val := by
  refine ⟨_, if_pos ⟨hy, Int.emod_eq_zero_of_dvd h⟩, ?_⟩
  have hy' : (y.m : ℚ) ≠ 0 := mod_cast hy
  have hscale : (2 : ℚ) ^ (x.e - y.e - (F.frac + 1)) = 2 ^ x.e / 2 ^ y.e / 2 ^ (F.frac + 1) := by
    rw [zpow_sub₀ two_ne_zero, zpow_sub₀ two_ne_zero]; norm_cast
  rw [Dyad.val, Dyad.val, Dyad.val, Int.cast_div h hy', hscale]
  push_cast; field_simp

theorem Fmt.value_ne_zero (F : Fmt) (v : ℕ) : F.value v ≠ 0 := by
  rw [← F.val_dyad, Ne, Dyad.val_eq_zero_iff]; exact F.dyad_m_ne_zero v

theorem Fmt.signif_mul_lt (F : Fmt) (v w : ℕ) : F.signif v * F.signif w < 2 ^ (2 * F.frac + 2) := by
  calc F.signif v * F.signif w < 2 ^ (F.frac + 1) * 2 ^ (F.frac + 1) :=
        Nat.mul_lt_mul'' (F.signif_lt v) (F.signif_lt w)
    _ = 2 ^ (2 * F.frac + 2) := by rw [← pow_add]; congr 1; omega

/-- The significands of a number that is a product. -/
theorem Fmt.signif_scaled_eq {F : Fmt} {a b r : ℕ} (h : F.value a = F.value b * F.value r) :
    (F.signif a : ℚ) * 2 ^ (F.dyad a).e = (F.signif b * F.signif r : ℕ) * 2 ^ ((F.dyad b).e + (F.dyad r).e) := by
  simp only [← F.val_dyad, ← Dyad.val_mul] at h
  simpa only [F.natAbs_dyad_m, Dyad.mul, Int.natAbs_mul] using Dyad.natAbs_scaled_eq h

/-- For a quotient of `frac + 1` significant bits, `frac + 1` bits after the point are enough. -/
theorem Fmt.div_of_val {F : Fmt} {a b r : ℕ} (h : F.value a / F.value b = F.value r) :
    ∃ q, (F.dyad a).div F (F.dyad b) = some q ∧ q.val = F.value r := by
  have hmag := Fmt.signif_scaled_eq ((div_eq_iff (F.value_ne_zero b)).1 h |>.trans (mul_comm ..))
  have hscale := scale_lt_of_scaled_eq hmag (F.le_signif a) (F.signif_mul_lt b r)
  have hdvd : F.signif b ∣ F.signif a * 2 ^ (F.frac + 1) := by
    obtain ⟨j, hj⟩ := Int.eq_ofNat_of_zero_le
      (show 0 ≤ F.frac + 1 + ((F.dyad b).e + (F.dyad r).e) - (F.dyad a).e by push_cast at hscale; omega)
    rw [mul_two_pow_eq_of_scaled_eq hmag (i := F.frac + 1) (j := j) (by push_cast; omega), mul_assoc]
    exact Nat.dvd_mul_right ..
  rw [← h, ← F.val_dyad, ← F.val_dyad]
  refine Dyad.div_of_dvd (F.dyad_m_ne_zero b) ?_
  rw [← Int.natAbs_dvd_natAbs, Int.natAbs_mul, Int.natAbs_pow, F.natAbs_dyad_m, F.natAbs_dyad_m]
  exact hdvd

/-- The bits that `isqrt` has still to find make its result the integer square root. -/
theorem isqrt_eq_sqrt {n b r : ℕ} (hle : r * r ≤ n) (hlt : n < (r + 2 ^ b) * (r + 2 ^ b)) : isqrt n b r = n.sqrt := by
  induction b generalizing r with
  | zero => exact Nat.eq_sqrt.2 ⟨hle, hlt⟩
  | succ b ih =>
    rw [isqrt]
    split
    next hbit => exact ih hbit (by rwa [add_assoc, ← two_mul, ← pow_succ'])
    next hbit => exact ih hle (not_le.1 hbit)

/-- The significand scaled by `sqrtScale` bits has an exponent that halves. -/
def Dyad.sqrtScale (F : Fmt) (x : Dyad) : ℕ := if (x.e - F.frac) % 2 = 0 then F.frac else F.frac + 1

/-- The natural number whose root the model takes. -/
def Dyad.radicand (F : Fmt) (x : Dyad) : ℕ := (x.m * 2 ^ x.sqrtScale F).toNat

theorem Dyad.sqrt_eq (F : Fmt) (x : Dyad) : x.sqrt F =
    if 0 < x.m ∧ isqrt (x.radicand F) (F.frac + 1) 0 * isqrt (x.radicand F) (F.frac + 1) 0 = x.radicand F then
      some ⟨isqrt (x.radicand F) (F.frac + 1) 0, (x.e - x.sqrtScale F) / 2⟩
    else none := rfl

/-- The root of a perfect square of a significand. -/
theorem Dyad.sqrt_of_sq {F : Fmt} {x : Dyad} {n r : ℕ} (hm : x.m = n) (hpos : 0 < n)
    (hsq : r * r = n * 2 ^ x.sqrtScale F) (hr : r < 2 ^ (F.frac + 1)) :
    x.sqrt F = some ⟨r, (x.e - x.sqrtScale F) / 2⟩ := by
  have hn : x.radicand F = r * r := by rw [Dyad.radicand, hm, hsq]; exact Int.toNat_natCast _
  have hroot : isqrt (r * r) (F.frac + 1) 0 = r := by
    rw [isqrt_eq_sqrt (Nat.zero_le _) (by rw [zero_add]; exact Nat.mul_lt_mul'' hr hr), Nat.sqrt_eq]
  rw [Dyad.sqrt_eq, hn, hroot, if_pos ⟨by omega, rfl⟩]

theorem Dyad.sqrtScale_spec (F : Fmt) (x : Dyad) :
    (x.e - x.sqrtScale F) % 2 = 0 ∧ F.frac ≤ x.sqrtScale F ∧ x.sqrtScale F ≤ F.frac + 1 := by
  unfold Dyad.sqrtScale; split <;> omega

/-- A positive value is its significand, scaled. -/
theorem Fmt.dyad_m_of_value_pos {F : Fmt} {v : ℕ} (h : 0 < F.value v) : (F.dyad v).m = F.signif v := by
  have hneg : ¬F.neg v = true := by rw [← F.dyad_m_neg_iff, ← Dyad.val_neg_iff, F.val_dyad]; exact h.not_gt
  rw [F.dyad_m, if_neg hneg, one_mul]

/-- An exact positive root that is a number of the format is found: the radicand is the square of its significand, shifted. -/
theorem Fmt.sqrt_of_val {F : Fmt} {a r : ℕ} (hpos : 0 < F.value r) (h : F.value r * F.value r = F.value a) :
    ∃ q, (F.dyad a).sqrt F = some q ∧ q.val = F.value r := by
  have hmag := Fmt.signif_scaled_eq h.symm
  have hscale := scale_lt_of_scaled_eq hmag (F.le_signif a) (F.signif_mul_lt r r)
  obtain ⟨heven, hlow, hhigh⟩ := (F.dyad a).sqrtScale_spec F
  generalize ht : (F.dyad a).sqrtScale F = t at *
  obtain ⟨j, hj⟩ : ∃ j : ℕ, (t : ℤ) + ((F.dyad r).e + (F.dyad r).e) = (2 * j : ℕ) + (F.dyad a).e :=
    ⟨((t + ((F.dyad r).e + (F.dyad r).e) - (F.dyad a).e) / 2).toNat, by push_cast at hscale ⊢; omega⟩
  have hsq : F.signif r * 2 ^ j * (F.signif r * 2 ^ j) = F.signif a * 2 ^ t := by
    rw [mul_two_pow_eq_of_scaled_eq hmag hj]; ring
  have hlt : F.signif r * 2 ^ j < 2 ^ (F.frac + 1) := by
    refine lt_of_mul_self_lt_mul_self₀ (Nat.zero_le _) ?_
    rw [hsq]
    exact Nat.mul_lt_mul_of_lt_of_le (F.signif_lt a) (Nat.pow_le_pow_right two_pos hhigh) (by positivity)
  have ha : 0 < F.value a := h ▸ mul_pos hpos hpos
  refine ⟨_, Dyad.sqrt_of_sq (Fmt.dyad_m_of_value_pos ha) (F.signif_pos a) (by rw [hsq, ht]) hlt, ?_⟩
  have hexp : (F.dyad r).e = j + ((F.dyad a).e - t) / 2 := by push_cast at hj; omega
  rw [← F.val_dyad, Dyad.val, Dyad.val, ht, Fmt.dyad_m_of_value_pos hpos, hexp, zpow_add₀ two_ne_zero]
  push_cast
  rw [zpow_natCast, mul_assoc]

/-! ### Rounding to an integer (R279) -/

theorem Dyad.den_pos (x : Dyad) : 0 < x.den := by unfold Dyad.den; positivity

/-- The fraction has the value of the dyadic number. -/
theorem Dyad.num_div_den (x : Dyad) : (x.num : ℚ) / x.den = x.val := by
  have hsplit : (2 : ℚ) ^ x.e = 2 ^ x.e.toNat / 2 ^ (-x.e).toNat := by
    rw [← zpow_natCast, ← zpow_natCast, ← zpow_sub₀ two_ne_zero]; congr 1; omega
  rw [Dyad.val, hsplit, Dyad.num, Dyad.den]
  push_cast; ring

/-- Integer division by the denominator is the floor of the fraction. -/
theorem Dyad.ediv_den (x : Dyad) (n : ℤ) : n / x.den = ⌊(n : ℚ) / x.den⌋ := by
  have hden : x.den = (2 ^ (-x.e).toNat : ℕ) := by rw [Dyad.den]; push_cast; rfl
  rw [hden]; exact_mod_cast (Rat.floor_intCast_div_natCast n _).symm

theorem Dyad.floor_eq (x : Dyad) : x.floor = ⌊x.val⌋ := by rw [Dyad.floor, x.ediv_den, x.num_div_den]

theorem Dyad.ceil_eq (x : Dyad) : x.ceil = ⌈x.val⌉ := by
  rw [Dyad.ceil, x.ediv_den, Int.cast_neg, neg_div, x.num_div_den, Int.floor_neg, neg_neg]

theorem Dyad.val_nonneg_iff {x : Dyad} : 0 ≤ x.val ↔ 0 ≤ x.num := by
  rw [← x.num_div_den, le_div_iff₀ (mod_cast x.den_pos), zero_mul, Int.cast_nonneg_iff]

theorem Dyad.trunc_eq (x : Dyad) : x.trunc = towardZero x.val := by
  rw [Dyad.trunc, towardZero]
  split
  next hnonneg => rw [Int.tdiv_eq_ediv_of_nonneg (Dyad.val_nonneg_iff.1 hnonneg), ← Dyad.floor_eq, Dyad.floor]
  next hneg =>
    have hnum : 0 ≤ -x.num := by rw [Dyad.val_nonneg_iff] at hneg; omega
    rw [← Dyad.ceil_eq, Dyad.ceil, ← Int.tdiv_eq_ediv_of_nonneg hnum, Int.neg_tdiv, neg_neg]

/-- The remainder is the part after the point. -/
theorem Dyad.fract_eq (x : Dyad) : Int.fract x.val = (x.num % x.den : ℤ) / x.den := by
  have hden : (x.den : ℚ) ≠ 0 := mod_cast x.den_pos.ne'
  rw [Int.fract, ← x.floor_eq, Dyad.floor, ← x.num_div_den, Int.emod_def]
  push_cast; field_simp

theorem Dyad.round_eq (x : Dyad) : x.round =
    if Int.fract x.val < 1 / 2 then ⌊x.val⌋ else if 1 / 2 < Int.fract x.val then ⌊x.val⌋ + 1
    else if ⌊x.val⌋ % 2 = 0 then ⌊x.val⌋ else ⌊x.val⌋ + 1 := by
  have hden : (0 : ℚ) < x.den := mod_cast x.den_pos
  have hlow : 2 * (x.num % x.den) < x.den ↔ Int.fract x.val < 1 / 2 := by
    rw [x.fract_eq, div_lt_div_iff₀ hden two_pos, one_mul, mul_comm]; exact_mod_cast Iff.rfl
  have hhigh : 2 * (x.num % x.den) > x.den ↔ 1 / 2 < Int.fract x.val := by
    rw [x.fract_eq, div_lt_div_iff₀ two_pos hden, one_mul, mul_comm]; exact_mod_cast Iff.rfl
  simp only [Dyad.round, hlow, hhigh, ← x.floor_eq, Dyad.floor]

/-- The nearest integer, ties to even, is the floor or the integer after it, by the part after the point. -/
theorem eq_of_nearestEven {v : ℚ} {n : ℤ} (h : NearestEven v n) :
    (if Int.fract v < 1 / 2 then ⌊v⌋ else if 1 / 2 < Int.fract v then ⌊v⌋ + 1
      else if ⌊v⌋ % 2 = 0 then ⌊v⌋ else ⌊v⌋ + 1) = n := by
  have hv : v = ⌊v⌋ + Int.fract v := (Int.floor_add_fract v).symm
  have h0 := Int.fract_nonneg v
  have h1 := Int.fract_lt_one v
  have hdist : |v - n| ≤ 1 / 2 := h.elim le_of_lt fun h => h.1.le
  have hn : n = ⌊v⌋ ∨ n = ⌊v⌋ + 1 := by
    obtain ⟨hlow, hhigh⟩ := abs_le.1 hdist
    have hge : ⌊v⌋ - 1 < n := by exact_mod_cast (by linarith : ((⌊v⌋ : ℤ) : ℚ) - 1 < n)
    have hle : n < ⌊v⌋ + 2 := by exact_mod_cast (by linarith : (n : ℚ) < (⌊v⌋ : ℤ) + 2)
    omega
  obtain hn | hn := hn
  · have habs : |v - n| = Int.fract v := by rw [hn, Int.self_sub_floor, abs_of_nonneg h0]
    rw [NearestEven, habs, hn] at h
    obtain hlt | ⟨htie, heven⟩ := h
    · rw [if_pos hlt, hn]
    · rw [htie, if_neg (lt_irrefl _), if_neg (lt_irrefl _), if_pos heven, hn]
  · have habs : |v - n| = 1 - Int.fract v := by
      rw [hn, abs_of_nonpos (by push_cast; linarith)]; push_cast; linarith
    rw [NearestEven, habs, hn] at h
    obtain hlt | ⟨htie, heven⟩ := h
    · rw [if_neg (by linarith), if_pos (by linarith), hn]
    · have hhalf : Int.fract v = 1 / 2 := by linarith
      rw [hhalf, if_neg (lt_irrefl _), if_neg (lt_irrefl _), if_neg (by omega), hn]

end Sys2Proof.Machine

/-! PROOFS. The model's `FP_NUMERICS` obeys the laws of R258 (spec/48_floating_point.md): law 1 for the operations, law 2 for the
compares, law 3 for the conversions to integers, and the bit operations of R276, R278 and R280. -/

namespace Sys2Proof.Machine

/-! ### Results that the laws fix -/

theorem lawOr_of_eq_some {α : Type} {fixed : Option α} {v : α} (h : fixed = some v) (free : FpResult α) :
    lawOr fixed free = .value v := by rw [h, lawOr]

/-- A value packs into the word or double that has it. -/
theorem Fmt.pack_bitVec {F : Fmt} {n : ℕ} (hn : n = F.frac + F.expBits + 1) {x : Dyad} {r : BitVec n}
    (hr : F.normal r.toNat = true) (hx : x.val = F.value r.toNat) : (F.pack x).map (BitVec.ofNat n) = some r := by
  subst hn
  rw [Fmt.pack_of_val hr r.isLt hx, Option.map_some, BitVec.ofNat_toNat, BitVec.setWidth_eq]

theorem Fmt.pack_single {x : Dyad} {r : Word} (hr : normalS r) (hx : x.val = valueS r) :
    (Fmt.single.pack x).map (BitVec.ofNat 32) = some r := Fmt.pack_bitVec rfl hr hx

theorem Fmt.pack_double {x : Dyad} {r : DWord} (hr : normalD r) (hx : x.val = valueD r) :
    (Fmt.double.pack x).map (BitVec.ofNat 64) = some r := Fmt.pack_bitVec rfl hr hx

/-! ### Law 1 -/

/-- The model's operation finds the exact result wherever it is a number of the format. -/
def FindsExact (F : Fmt) (op : ℚ → ℚ → ℚ) (dop : Dyad → Dyad → Option Dyad) : Prop :=
  ∀ a b r : ℕ, op (F.value a) (F.value b) = F.value r → ∃ q, dop (F.dyad a) (F.dyad b) = some q ∧ q.val = F.value r

theorem findsExact_add (F : Fmt) : FindsExact F (· + ·) fun x y => some (x.add y) :=
  fun a b _ h => ⟨_, rfl, by rw [Dyad.val_add, F.val_dyad, F.val_dyad, ← h]⟩

theorem findsExact_sub (F : Fmt) : FindsExact F (· - ·) fun x y => some (x.sub y) :=
  fun a b _ h => ⟨_, rfl, by rw [Dyad.val_sub, F.val_dyad, F.val_dyad, ← h]⟩

theorem findsExact_mul (F : Fmt) : FindsExact F (· * ·) fun x y => some (x.mul y) :=
  fun a b _ h => ⟨_, rfl, by rw [Dyad.val_mul, F.val_dyad, F.val_dyad, ← h]⟩

theorem findsExact_div (F : Fmt) : FindsExact F (· / ·) (Dyad.div F) := fun _ _ _ => Fmt.div_of_val

theorem law1S_of_findsExact {op : ℚ → ℚ → ℚ} {dop : Dyad → Dyad → Option Dyad} (h : FindsExact Fmt.single op dop)
    (free : Word → Word → FpResult Word) : Law1S op fun a b => lawOr (exactS dop a b) (free a b) := by
  intro a b r ha hb hr hop
  obtain ⟨q, hq, hval⟩ := h _ _ _ hop
  refine lawOr_of_eq_some ?_ _
  rw [exactS, ha, hb, Bool.and_self, if_pos rfl, hq, Option.bind_some, Fmt.pack_single hr hval]

theorem law1D_of_findsExact {op : ℚ → ℚ → ℚ} {dop : Dyad → Dyad → Option Dyad} (h : FindsExact Fmt.double op dop)
    (free : DWord → DWord → FpResult DWord) : Law1D op fun a b => lawOr (exactD dop a b) (free a b) := by
  intro a b r ha hb hr hop
  obtain ⟨q, hq, hval⟩ := h _ _ _ hop
  refine lawOr_of_eq_some ?_ _
  rw [exactD, ha, hb, Bool.and_self, if_pos rfl, hq, Option.bind_some, Fmt.pack_double hr hval]

theorem fpSqrtS_of_sq {a r : Word} (ha : normalS a) (hr : normalS r) (hpos : 0 < valueS r)
    (h : valueS r * valueS r = valueS a) : fpSqrtS a = .value r := by
  obtain ⟨q, hq, hval⟩ := Fmt.sqrt_of_val hpos h
  refine lawOr_of_eq_some ?_ _
  rw [if_pos ha, hq, Option.bind_some, Fmt.pack_single hr hval]

theorem fpSqrtD_of_sq {a r : DWord} (ha : normalD a) (hr : normalD r) (hpos : 0 < valueD r)
    (h : valueD r * valueD r = valueD a) : fpSqrtD a = .value r := by
  obtain ⟨q, hq, hval⟩ := Fmt.sqrt_of_val hpos h
  refine lawOr_of_eq_some ?_ _
  rw [if_pos ha, hq, Option.bind_some, Fmt.pack_double hr hval]

/-- A normalised double that has the value of a normalised single converts to it (R280). -/
theorem fpCvtSD_of_value {a : DWord} {r : Word} (ha : normalD a) (hr : normalS r) (h : valueD a = valueS r) :
    fpCvtSD a = .value r := by
  refine lawOr_of_eq_some ?_ _
  rw [if_pos ha, Fmt.pack_single hr ((Fmt.double.val_dyad _).trans h)]

/-! ### Law 2 -/

theorem exactCmp_of_normal {F : Fmt} {a b : ℕ} (ha : F.normal a = true) (hb : F.normal b = true) (cond : BitVec 4) :
    exactCmp F cond a b = some (decide (CondTrue cond (F.value a) (F.value b))) := by
  rw [exactCmp, ha, hb, Bool.and_self, if_pos rfl, Option.some_inj, Bool.eq_iff_iff, decide_eq_true_iff, condHolds]
  simp only [Bool.and_false, Bool.or_false, Bool.or_eq_true, Bool.and_eq_true, Dyad.lt_iff, Dyad.eq_iff, F.val_dyad]

theorem fpCmpS_of_normal {a b : Word} (cond : BitVec 4) (ha : normalS a) (hb : normalS b) :
    fpCmpS cond a b = .value (decide (CondTrue cond (valueS a) (valueS b))) :=
  lawOr_of_eq_some (exactCmp_of_normal ha hb cond) _

theorem fpCmpD_of_normal {a b : DWord} (cond : BitVec 4) (ha : normalD a) (hb : normalD b) :
    fpCmpD cond a b = .value (decide (CondTrue cond (valueD a) (valueD b))) :=
  lawOr_of_eq_some (exactCmp_of_normal ha hb cond) _

/-! ### Law 3 -/

theorem inRangeWord_of_le {n : ℤ} (hlow : -2 ^ 31 ≤ n) (hhigh : n ≤ 2 ^ 31 - 1) :
    inRangeWord n = some (BitVec.ofInt 32 n) :=
  if_neg fun h => outOfRange_iff.1 h ⟨hlow, hhigh⟩

theorem exactRound_of_normal {F : Fmt} {rnd : Dyad → ℤ} {a : ℕ} {n : ℤ} (ha : F.normal a = true) (hn : rnd (F.dyad a) = n)
    (hlow : -2 ^ 31 ≤ n) (hhigh : n ≤ 2 ^ 31 - 1) : exactRound F rnd a = some (BitVec.ofInt 32 n) := by
  rw [exactRound, if_pos ha, hn, inRangeWord_of_le hlow hhigh]

theorem Fmt.not_normal_of_zero {F : Fmt} {a : ℕ} (h : F.zero a = true) : ¬F.normal a = true := by
  have hexp : F.expField a = 0 := beq_iff_eq.1 (Bool.and_eq_true_iff.1 h).1
  exact fun hn => (Fmt.normal_iff.1 hn).1 hexp

theorem exactRound_of_zero {F : Fmt} {a : ℕ} (h : F.zero a = true) (rnd : Dyad → ℤ) : exactRound F rnd a = some 0#32 := by
  rw [exactRound, if_neg (Fmt.not_normal_of_zero h), if_pos h]

/-- The model's rounding is the rounding `rounds`. -/
def Rounds (rounds : ℚ → ℤ → Prop) (rnd : Dyad → ℤ) : Prop := ∀ (x : Dyad) (n : ℤ), rounds x.val n → rnd x = n

theorem rounds_nearestEven : Rounds NearestEven Dyad.round := fun x _ h => x.round_eq.trans (eq_of_nearestEven h)

theorem rounds_towardZero : Rounds (fun v n => n = towardZero v) Dyad.trunc := fun x _ h => x.trunc_eq.trans h.symm

theorem rounds_ceil : Rounds (fun v n => n = ⌈v⌉) Dyad.ceil := fun x _ h => x.ceil_eq.trans h.symm

theorem rounds_floor : Rounds (fun v n => n = ⌊v⌋) Dyad.floor := fun x _ h => x.floor_eq.trans h.symm

theorem law3S_of_rounds {rounds : ℚ → ℤ → Prop} {rnd : Dyad → ℤ} (h : Rounds rounds rnd) (free : Word → FpResult Word) :
    Law3S rounds fun a => lawOr (exactRound Fmt.single rnd a.toNat) (free a) := by
  refine ⟨fun a n ha hn hlow hhigh => lawOr_of_eq_some (exactRound_of_normal ha (h _ n ?_) hlow hhigh) _,
    fun a ha => lawOr_of_eq_some (exactRound_of_zero ha rnd) _⟩
  rw [Fmt.val_dyad]; exact hn

theorem law3D_of_rounds {rounds : ℚ → ℤ → Prop} {rnd : Dyad → ℤ} (h : Rounds rounds rnd) (free : DWord → FpResult Word) :
    Law3D rounds fun a => lawOr (exactRound Fmt.double rnd a.toNat) (free a) := by
  refine ⟨fun a n ha hn hlow hhigh => lawOr_of_eq_some (exactRound_of_normal ha (h _ n ?_) hlow hhigh) _,
    fun a ha => lawOr_of_eq_some (exactRound_of_zero ha rnd) _⟩
  rw [Fmt.val_dyad]; exact hn

/-- An integer value leaves no remainder and is its own floor (R280). -/
theorem exactCvtW_of_value {F : Fmt} {a : ℕ} {n : ℤ} (ha : F.normal a = true) (hn : F.value a = n)
    (hlow : -2 ^ 31 ≤ n) (hhigh : n ≤ 2 ^ 31 - 1) : exactCvtW F a = some (BitVec.ofInt 32 n) := by
  rw [← F.val_dyad] at hn
  have hrest : (F.dyad a).num % (F.dyad a).den = 0 := by
    have hfract := (F.dyad a).fract_eq
    rw [hn, Int.fract_intCast, eq_comm, div_eq_zero_iff] at hfract
    exact_mod_cast hfract.resolve_right (mod_cast (F.dyad a).den_pos.ne')
  rw [exactCvtW, ha, hrest, Dyad.floor_eq, hn, Int.floor_intCast]
  exact inRangeWord_of_le hlow hhigh

theorem fpCvtWS_of_value {a : Word} {n : ℤ} (ha : normalS a) (hn : valueS a = n) (hlow : -2 ^ 31 ≤ n)
    (hhigh : n ≤ 2 ^ 31 - 1) : fpCvtWS a = .value (BitVec.ofInt 32 n) :=
  lawOr_of_eq_some (exactCvtW_of_value ha hn hlow hhigh) _

theorem fpCvtWD_of_value {a : DWord} {n : ℤ} (ha : normalD a) (hn : valueD a = n) (hlow : -2 ^ 31 ≤ n)
    (hhigh : n ≤ 2 ^ 31 - 1) : fpCvtWD a = .value (BitVec.ofInt 32 n) :=
  lawOr_of_eq_some (exactCvtW_of_value ha hn hlow hhigh) _

/-! ### The fields of a pattern as its bits (R255) -/

theorem single_neg (v : Word) : Fmt.single.neg v.toNat = (v.extractLsb' 31 1 == 1#1) := by
  rw [Bool.eq_iff_iff, beq_iff_eq, ← BitVec.toNat_inj, BitVec.extractLsb'_toNat, Nat.shiftRight_eq_div_pow]
  exact beq_iff_eq

theorem single_expField (v : Word) : Fmt.single.expField v.toNat = (v.extractLsb' 23 8).toNat := by
  rw [BitVec.extractLsb'_toNat, Nat.shiftRight_eq_div_pow]; rfl

theorem single_fracField (v : Word) : Fmt.single.fracField v.toNat = (v.extractLsb' 0 23).toNat := by
  rw [BitVec.extractLsb'_toNat]; rfl

theorem double_neg (v : DWord) : Fmt.double.neg v.toNat = (v.extractLsb' 63 1 == 1#1) := by
  rw [Bool.eq_iff_iff, beq_iff_eq, ← BitVec.toNat_inj, BitVec.extractLsb'_toNat, Nat.shiftRight_eq_div_pow]
  exact beq_iff_eq

theorem double_expField (v : DWord) : Fmt.double.expField v.toNat = (v.extractLsb' 52 11).toNat := by
  rw [BitVec.extractLsb'_toNat, Nat.shiftRight_eq_div_pow]; rfl

theorem double_fracField (v : DWord) : Fmt.double.fracField v.toNat = (v.extractLsb' 0 52).toNat := by
  rw [BitVec.extractLsb'_toNat]; rfl

theorem nanS_iff (v : Word) : NanS v ↔ Fmt.single.nan v.toNat = true := by
  rw [Fmt.nan, single_expField, single_fracField, Bool.and_eq_true, beq_iff_eq, bne_iff_ne, NanS, ← BitVec.toNat_inj,
    Ne, ← BitVec.toNat_inj]
  exact Iff.rfl

theorem nanD_iff (v : DWord) : NanD v ↔ Fmt.double.nan v.toNat = true := by
  rw [Fmt.nan, double_expField, double_fracField, Bool.and_eq_true, beq_iff_eq, bne_iff_ne, NanD, ← BitVec.toNat_inj,
    Ne, ← BitVec.toNat_inj]
  exact Iff.rfl

/-! ### The sign bit (R276, R278) -/

/-- A pattern of `n + 1` bits is its sign bit and the rest. -/
theorem sign_append_rest {n : ℕ} (a : BitVec (1 + n)) : a.extractLsb' n 1 ++ a.extractLsb' 0 n = a :=
  (BitVec.extractLsb'_append_extractLsb'_eq_extractLsb' (x := a) (Nat.zero_add n).symm).trans BitVec.extractLsb'_eq_self

theorem and_rest {n : ℕ} (a : BitVec (1 + n)) : a &&& (0#1 ++ BitVec.allOnes n) = 0#1 ++ a.extractLsb' 0 n := by
  rw [← sign_append_rest a, BitVec.and_append, BitVec.and_allOnes, BitVec.and_zero, sign_append_rest]

theorem xor_sign {n : ℕ} (a : BitVec (1 + n)) :
    a ^^^ (1#1 ++ 0#n) = ~~~(a.extractLsb' n 1) ++ a.extractLsb' 0 n := by
  have hflip (b : BitVec 1) : b ^^^ 1#1 = ~~~b := by revert b; decide
  rw [← sign_append_rest a, BitVec.xor_append, BitVec.xor_zero, hflip, sign_append_rest]

theorem fpAbsS_of_not_nan {a : Word} (h : ¬NanS a) : fpAbsS a = .value (0#1 ++ a.extractLsb' 0 31) := by
  refine lawOr_of_eq_some ?_ _
  rw [if_neg (mt (nanS_iff a).2 h)]
  exact congrArg some (and_rest (n := 31) a)

theorem fpNegS_of_not_nan {a : Word} (h : ¬NanS a) : fpNegS a = .value (~~~(a.extractLsb' 31 1) ++ a.extractLsb' 0 31) := by
  refine lawOr_of_eq_some ?_ _
  rw [if_neg (mt (nanS_iff a).2 h)]
  exact congrArg some (xor_sign (n := 31) a)

theorem fpAbsD_of_not_nan {a : DWord} (h : ¬NanD a) : fpAbsD a = .value (0#1 ++ a.extractLsb' 0 63) := by
  refine lawOr_of_eq_some ?_ _
  rw [if_neg (mt (nanD_iff a).2 h)]
  exact congrArg some (and_rest (n := 63) a)

theorem fpNegD_of_not_nan {a : DWord} (h : ¬NanD a) : fpNegD a = .value (~~~(a.extractLsb' 63 1) ++ a.extractLsb' 0 63) := by
  refine lawOr_of_eq_some ?_ _
  rw [if_neg (mt (nanD_iff a).2 h)]
  exact congrArg some (xor_sign (n := 63) a)

/-! ### Every normalised single as a double (R280) -/

/-- A normalised single as a double (R280): the exponents differ by the biases, the fractions by 29 bits. -/
def widened (a : Word) : DWord :=
  a.extractLsb' 31 1 ++ BitVec.ofNat 11 ((a.extractLsb' 23 8).toNat + 896) ++ a.extractLsb' 0 23 ++ 0#29

theorem widened_neg (a : Word) : Fmt.double.neg (widened a).toNat = Fmt.single.neg a.toNat := by
  rw [double_neg, single_neg, widened, BitVec.extractLsb'_append_eq_of_le (by decide),
    BitVec.extractLsb'_append_eq_of_le (by decide)]
  exact congrArg (· == 1#1) BitVec.extractLsb'_append_eq_left

theorem widened_expField (a : Word) : Fmt.double.expField (widened a).toNat = Fmt.single.expField a.toNat + 896 := by
  have hfits : (a.extractLsb' 23 8).toNat + 896 < 2 ^ 11 := by have := (a.extractLsb' 23 8).isLt; omega
  have hfield : (widened a).extractLsb' 52 11 = BitVec.ofNat 11 ((a.extractLsb' 23 8).toNat + 896) := by
    rw [widened, BitVec.extractLsb'_append_eq_of_le (by decide), BitVec.extractLsb'_append_eq_of_le (by decide)]
    exact BitVec.extractLsb'_append_eq_right
  rw [double_expField, single_expField, hfield, BitVec.toNat_ofNat, Nat.mod_eq_of_lt hfits]

theorem widened_fracField (a : Word) : Fmt.double.fracField (widened a).toNat = Fmt.single.fracField a.toNat * 2 ^ 29 := by
  have hfield : (widened a).extractLsb' 0 52 = a.extractLsb' 0 23 ++ 0#29 := by
    ext i hi
    simp only [widened, BitVec.getElem_extractLsb', BitVec.getLsbD_append]
    grind
  rw [double_fracField, single_fracField, hfield, BitVec.toNat_append, Nat.shiftLeft_eq]
  exact Nat.or_zero _

theorem normalD_widened {a : Word} (h : normalS a) : normalD (widened a) := by
  have hlt : Fmt.single.expField a.toNat < 256 := Nat.mod_lt _ (by decide)
  obtain ⟨-, h1⟩ : Fmt.single.expField a.toNat ≠ 0 ∧ Fmt.single.expField a.toNat ≠ 255 := Fmt.normal_iff.1 h
  have hdouble : Fmt.single.expField a.toNat + 896 ≠ 0 ∧ Fmt.single.expField a.toNat + 896 ≠ 2047 := by omega
  rw [normalD, Fmt.normal_iff, widened_expField]
  exact hdouble

theorem valueD_widened (a : Word) : valueD (widened a) = valueS a := by
  have hfrac : ((Fmt.single.fracField a.toNat * 2 ^ 29 : ℕ) : ℚ) / 2 ^ 52 = Fmt.single.fracField a.toNat / 2 ^ 23 := by
    push_cast; ring
  have hexp : ((Fmt.single.expField a.toNat + 896 : ℕ) : ℤ) - 1023 = Fmt.single.expField a.toNat - 127 := by push_cast; ring
  rw [valueD, Fmt.value, widened_neg, widened_expField, widened_fracField]
  exact congrArg₂ (fun f e => (if Fmt.single.neg a.toNat then (-1 : ℚ) else 1) * (1 + f) * 2 ^ e) hfrac hexp

/-- Law 1 for the conversion of a single, whose value every double has (R280). -/
theorem fpCvtDS_of_normal {a : Word} (h : normalS a) : fpCvtDS a = .value (widened a) := by
  refine lawOr_of_eq_some ?_ _
  rw [if_pos h, Fmt.pack_double (normalD_widened h) ((Fmt.single.val_dyad _).trans (valueD_widened a).symm)]

end Sys2Proof.Machine

/-! PROOFS. The floating-point instructions (spec/48_floating_point.md R256 to R281). Each is the checks of the family, a function of
its operands, and the delivery of the function's result; the functions obey the laws of R258. -/

namespace Sys2Proof.Machine

/-! ### The checks of the family (R256, R257) -/

/-- Every instruction is the checks of the family on its double registers, a branch on a flag, or of another family. -/
theorem exec_fp_cases (i : Instr) (s : State) :
    (∃ k, exec i s = s.fp i.doubleRegs k) ∨ (i.doubleRegs = [] ∧ ∃ c imm, exec i s = s.branchFp c imm) ∨
      (i.doubleRegs = [] ∧ i.float = false) := by
  cases i with
  | bc1f | bc1t => exact .inr (.inl ⟨rfl, _, _, rfl⟩)
  | lwc1 | ldc1 | swc1 | sdc1 | addS | subS | mulS | divS | sqrtS | absS | movS | negS | roundWS | truncWS | ceilWS | floorWS
  | movzS | movnS | cvtDS | cvtWS | addD | subD | mulD | divD | sqrtD | absD | movD | negD | roundWD | truncWD | ceilWD
  | floorWD | movzD | movnD | cvtSD | cvtWD | cFS | cUnS | cEqS | cUeqS | cOltS | cUltS | cOleS | cUleS | cSfS | cNgleS | cSeqS
  | cNglS | cLtS | cNgeS | cLeS | cNgtS | cFD | cUnD | cEqD | cUeqD | cOltD | cUltD | cOleD | cUleD | cSfD | cNgleD | cSeqD
  | cNglD | cLtD | cNgeD | cLeD | cNgtD => exact .inl ⟨_, rfl⟩
  | _ => exact .inr (.inr ⟨rfl, rfl⟩)

/-- An odd register named as a double is refused (R257). -/
theorem State.fp_of_odd {s : State} {ds : List FReg} (hfpu : s.params.hasFpu = true) (hodd : ∃ n ∈ ds, ¬IsEven n) (k : State) :
    s.fp ds k = .refused .oddDouble := by
  have hall : ¬ds.all evenReg = true := by simpa [evenReg] using hodd
  rw [State.fp, if_pos hfpu, if_neg hall]

/-- Without the unit nothing else is checked (R256). -/
theorem State.fp_of_not_hasFpu {s : State} (hfpu : s.params.hasFpu = false) (ds : List FReg) (k : State) :
    s.fp ds k = .next (s.raise .coprocessorUnimplemented) :=
  if_neg (by simp [hfpu])

/-- Without the unit an instruction of the family raises Coprocessor Unimplemented (R256). -/
theorem exec_of_not_hasFpu {i : Instr} {s : State} (hfloat : i.float = true) (hfpu : s.params.hasFpu = false) :
    exec i s = .next (s.raise .coprocessorUnimplemented) := by
  obtain ⟨k, hexec⟩ | ⟨-, c, imm, hexec⟩ | ⟨-, hother⟩ := exec_fp_cases i s
  · exact hexec.trans (State.fp_of_not_hasFpu hfpu _ k)
  · exact hexec.trans (State.branchFp_of_not_hasFpu hfpu c imm)
  · rw [hfloat] at hother; cases hother

/-- A word of the family that does not decode has opcode 0x11: the four memory opcodes decode with any operands (R256). -/
theorem opcode_of_not_decode {w : Word} (hw : coprocessor1Word w = true) (hdecode : ∀ i, decode w ≠ .ok i) :
    w.extractLsb' 26 6 = 0x11#6 := by
  have hnone : decodeFields (Fields.ofWord w) = none := decode_ne_ok_iff.1 hdecode
  have hop : (Fields.ofWord w).op = w.extractLsb' 26 6 := rfl
  simp only [coprocessor1Word, Bool.or_eq_true, beq_iff_eq] at hw
  obtain (((h | h) | h) | h) | h := hw
  · exact h
  all_goals
    rw [h] at hop
    simp [decodeFields, hop] at hnone

/-! ### From an instruction's function to what its word executes -/

section Executes

variable {w : Word} {i : Instr} {s : State} {ds : List FReg}

/-- An instruction that is the checks of the family and then `k`. -/
theorem executes_of_fp {k : State} {post : State → Prop} (hw : w = encode i) (hfpu : s.params.hasFpu = true)
    (heven : ∀ d ∈ ds, IsEven d) (hexec : exec i s = s.fp ds k) (hpost : post k) : Executes w i s post :=
  executes_of_next hw (hexec.trans (State.fp_next hfpu heven k)) hpost

theorem executes_of_putF {fd : FReg} {r : FpResult Word} (hw : w = encode i) (hfpu : s.params.hasFpu = true)
    (heven : ∀ d ∈ ds, IsEven d) (hexec : exec i s = s.fp ds (s.putF fd r)) : Executes w i s (DeliversF fd r s) :=
  executes_of_fp hw hfpu heven hexec (s.putF_delivers fd r)

theorem executes_of_putD {fd : FReg} {r : FpResult DWord} (hw : w = encode i) (hfpu : s.params.hasFpu = true)
    (heven : ∀ d ∈ ds, IsEven d) (hexec : exec i s = s.fp ds (s.putD fd r)) : Executes w i s (DeliversD fd r s) :=
  executes_of_fp hw hfpu heven hexec (s.putD_delivers fd r)

theorem executes_of_putCc {cc : CcNum} {r : FpResult Bool} (hw : w = encode i) (hfpu : s.params.hasFpu = true)
    (heven : ∀ d ∈ ds, IsEven d) (hexec : exec i s = s.fp ds (s.putCc cc r)) : Executes w i s (DeliversCc cc r s) :=
  executes_of_fp hw hfpu heven hexec (s.putCc_delivers cc r)

/-- A conditional move: under the condition `c` what holds of `k`, else nothing (R281). -/
theorem executes_of_fp_ite {c : Prop} [Decidable c] {k : State} {post : State → Prop} (hw : w = encode i)
    (hfpu : s.params.hasFpu = true) (heven : ∀ d ∈ ds, IsEven d) (hexec : exec i s = s.fp ds (if c then k else s.advance))
    (hpost : post k) : Executes w i s (fun t => if c then post t else WritesNothing s t) := by
  refine executes_of_fp hw hfpu heven hexec ?_
  by_cases hc : c
  · simpa only [if_pos hc] using hpost
  · simpa only [if_neg hc] using s.advance_writesNothing

theorem executes_of_fp_ite_not {c : Prop} [Decidable c] {k : State} {post : State → Prop} (hw : w = encode i)
    (hfpu : s.params.hasFpu = true) (heven : ∀ d ∈ ds, IsEven d) (hexec : exec i s = s.fp ds (if ¬c then k else s.advance))
    (hpost : post k) : Executes w i s (fun t => if c then WritesNothing s t else post t) := by
  simpa only [ite_not] using executes_of_fp_ite hw hfpu heven hexec hpost

end Executes

theorem forall_isEven_nil : ∀ d ∈ ([] : List FReg), IsEven d := List.forall_mem_nil _

theorem forall_isEven_one {a : FReg} (ha : IsEven a) : ∀ d ∈ [a], IsEven d := List.forall_mem_singleton.2 ha

theorem forall_isEven_two {a b : FReg} (ha : IsEven a) (hb : IsEven b) : ∀ d ∈ [a, b], IsEven d :=
  List.forall_mem_cons.2 ⟨ha, forall_isEven_one hb⟩

theorem forall_isEven_three {a b c : FReg} (ha : IsEven a) (hb : IsEven b) (hc : IsEven c) : ∀ d ∈ [a, b, c], IsEven d :=
  List.forall_mem_cons.2 ⟨ha, forall_isEven_two hb hc⟩

/-! ### The sixteen conditions -/

/-- The compares of singles by their condition (R267 to R270). -/
def singleCompares : List (BitVec 4 × (CcNum → FReg → FReg → Instr)) :=
  [(0x0#4, .cFS), (0x1#4, .cUnS), (0x2#4, .cEqS), (0x3#4, .cUeqS), (0x4#4, .cOltS), (0x5#4, .cUltS), (0x6#4, .cOleS),
    (0x7#4, .cUleS), (0x8#4, .cSfS), (0x9#4, .cNgleS), (0xa#4, .cSeqS), (0xb#4, .cNglS), (0xc#4, .cLtS), (0xd#4, .cNgeS),
    (0xe#4, .cLeS), (0xf#4, .cNgtS)]

/-- The compares of doubles by their condition (R267 to R270). -/
def doubleCompares : List (BitVec 4 × (CcNum → FReg → FReg → Instr)) :=
  [(0x0#4, .cFD), (0x1#4, .cUnD), (0x2#4, .cEqD), (0x3#4, .cUeqD), (0x4#4, .cOltD), (0x5#4, .cUltD), (0x6#4, .cOleD),
    (0x7#4, .cUleD), (0x8#4, .cSfD), (0x9#4, .cNgleD), (0xa#4, .cSeqD), (0xb#4, .cNglD), (0xc#4, .cLtD), (0xd#4, .cNgeD),
    (0xe#4, .cLeD), (0xf#4, .cNgtD)]

/-- The `funct` field of a compare is its condition after 11 (R270). -/
theorem encodeFields_singleCompares (cc : CcNum) (fs ft : FReg) : ∀ c ∈ singleCompares,
    encodeFields (c.2 cc fs ft) = Fields.compareType 0x10#5 ft fs cc (0b11#2 ++ c.1) :=
  List.map_inj_left.1 rfl

theorem encodeFields_doubleCompares (cc : CcNum) (fs ft : FReg) : ∀ c ∈ doubleCompares,
    encodeFields (c.2 cc fs ft) = Fields.compareType 0x11#5 ft fs cc (0b11#2 ++ c.1) :=
  List.map_inj_left.1 rfl

theorem exec_singleCompares (cc : CcNum) (fs ft : FReg) (s : State) : ∀ c ∈ singleCompares,
    exec (c.2 cc fs ft) s = s.compareS c.1 cc fs ft :=
  List.map_inj_left.1 rfl

theorem exec_doubleCompares (cc : CcNum) (fs ft : FReg) (s : State) : ∀ c ∈ doubleCompares,
    exec (c.2 cc fs ft) s = s.compareD c.1 cc fs ft :=
  List.map_inj_left.1 rfl

/-! ### The statements -/

/-- Settles O32: the checks of the family come first, and no other family names a double. -/
theorem oddDoublesRefused : Obligations.OddDoublesRefused := by
  intro i s hfpu hodd
  obtain ⟨k, hexec⟩ | ⟨hnone, -⟩ | ⟨hnone, -⟩ := exec_fp_cases i s
  · exact hexec.trans (State.fp_of_odd hfpu hodd k)
  all_goals simp [hnone] at hodd

/-- Settles O33: a word that decodes is an instruction of the family; one that does not has opcode 0x11, tested first. -/
theorem absentUnitRaises : Obligations.AbsentUnitRaises := by
  intro w s hw hfpu
  refine ⟨_, ?_, s.raise_entered .coprocessorUnimplemented⟩
  by_cases hdecode : ∃ i, decode w = .ok i
  · obtain ⟨i, hi⟩ := hdecode
    have hfloat : i.float = true := by rw [← coprocessor1Word_encode, encode_of_decode hi, hw]
    rw [runWord_of_decode hi, exec_of_not_hasFpu hfloat hfpu]
  · have hne : ∀ i, decode w ≠ .ok i := fun i hi => hdecode ⟨i, hi⟩
    rw [runWord_of_not_decode hne, unlistedWord, opcode_of_not_decode hw hne, hfpu]
    rfl

/-- Settles O23: each function finds the exact result, and each instruction delivers its function's answer. -/
theorem singleArithmetic : Obligations.SingleArithmetic := by
  refine ⟨fpAddS, fpSubS, fpMulS, fpDivS, law1S_of_findsExact (findsExact_add _) _, law1S_of_findsExact (findsExact_sub _) _,
    law1S_of_findsExact (findsExact_mul _) _, law1S_of_findsExact (findsExact_div _) _, fun fd fs ft s hfpu => ?_⟩
  exact ⟨executes_of_putF rfl hfpu forall_isEven_nil rfl, executes_of_putF rfl hfpu forall_isEven_nil rfl,
    executes_of_putF rfl hfpu forall_isEven_nil rfl, executes_of_putF rfl hfpu forall_isEven_nil rfl⟩

/-- Settles O24: as for singles, on three even registers. -/
theorem doubleArithmetic : Obligations.DoubleArithmetic := by
  refine ⟨fpAddD, fpSubD, fpMulD, fpDivD, law1D_of_findsExact (findsExact_add _) _, law1D_of_findsExact (findsExact_sub _) _,
    law1D_of_findsExact (findsExact_mul _) _, law1D_of_findsExact (findsExact_div _) _, fun fd fs ft s hfpu hfd hfs hft => ?_⟩
  simp only [← s.readD_eq_pairValue]
  have heven := forall_isEven_three hfd hfs hft
  exact ⟨executes_of_putD rfl hfpu heven rfl, executes_of_putD rfl hfpu heven rfl, executes_of_putD rfl hfpu heven rfl,
    executes_of_putD rfl hfpu heven rfl⟩

/-- Settles O25: the root found bit by bit is exact where law 1 asks for it. -/
theorem squareRoots : Obligations.SquareRoots := by
  refine ⟨⟨fpSqrtS, fun _ _ => fpSqrtS_of_sq, fun fd fs s hfpu => ?single⟩,
    fpSqrtD, fun _ _ => fpSqrtD_of_sq, fun fd fs s hfpu hfd hfs => ?double⟩
  case single => exact executes_of_putF rfl hfpu forall_isEven_nil rfl
  case double =>
    rw [← s.readD_eq_pairValue]
    exact executes_of_putD rfl hfpu (forall_isEven_two hfd hfs) rfl

/-- Settles O26: both masks act on the sign bit alone. -/
theorem absoluteValueAndNegation : Obligations.AbsoluteValueAndNegation := by
  refine ⟨fpAbsS, fpNegS, fpAbsD, fpNegD, fun _ => fpAbsS_of_not_nan, fun _ => fpNegS_of_not_nan, fun _ => fpAbsD_of_not_nan,
    fun _ => fpNegD_of_not_nan, fun fd fs s hfpu => ?_⟩
  simp only [← s.readD_eq_pairValue]
  refine ⟨executes_of_putF rfl hfpu forall_isEven_nil rfl, executes_of_putF rfl hfpu forall_isEven_nil rfl, fun hfd hfs => ?_⟩
  have heven := forall_isEven_two hfd hfs
  exact ⟨executes_of_putD rfl hfpu heven rfl, executes_of_putD rfl hfpu heven rfl⟩

/-- Settles O27: each is one register write, the conditional moves under their condition. -/
theorem floatingPointMoves : Obligations.FloatingPointMoves := by
  intro fd fs rt s hfpu
  have hS := s.writeF_writesF fd (s.readF fs)
  have hD := s.writeD_writesD fd (s.readD fs)
  rw [← s.readD_eq_pairValue]
  refine ⟨executes_of_fp rfl hfpu forall_isEven_nil rfl hS, executes_of_fp_ite rfl hfpu forall_isEven_nil rfl hS,
    executes_of_fp_ite_not rfl hfpu forall_isEven_nil rfl hS, fun hfd hfs => ?_⟩
  have heven := forall_isEven_two hfd hfs
  exact ⟨executes_of_fp rfl hfpu heven rfl hD, executes_of_fp_ite rfl hfpu heven rfl hD,
    executes_of_fp_ite_not rfl hfpu heven rfl hD⟩

/-- Settles O28: each rounding of the model's fraction is the rounding of the value. -/
theorem roundings : Obligations.Roundings := by
  refine ⟨⟨fpRoundWS, fpTruncWS, fpCeilWS, fpFloorWS, law3S_of_rounds rounds_nearestEven _, law3S_of_rounds rounds_towardZero _,
      law3S_of_rounds rounds_ceil _, law3S_of_rounds rounds_floor _, fun fd fs s hfpu => ?single⟩,
    fpRoundWD, fpTruncWD, fpCeilWD, fpFloorWD, law3D_of_rounds rounds_nearestEven _, law3D_of_rounds rounds_towardZero _,
      law3D_of_rounds rounds_ceil _, law3D_of_rounds rounds_floor _, fun fd fs s hfpu hfs => ?double⟩
  case single =>
    exact ⟨executes_of_putF rfl hfpu forall_isEven_nil rfl, executes_of_putF rfl hfpu forall_isEven_nil rfl,
      executes_of_putF rfl hfpu forall_isEven_nil rfl, executes_of_putF rfl hfpu forall_isEven_nil rfl⟩
  case double =>
    rw [← s.readD_eq_pairValue]
    have heven := forall_isEven_one hfs
    exact ⟨executes_of_putF rfl hfpu heven rfl, executes_of_putF rfl hfpu heven rfl, executes_of_putF rfl hfpu heven rfl,
      executes_of_putF rfl hfpu heven rfl⟩

/-- Settles O29: the value of a normalised single has a double; the other three are laws 1 and 3. -/
theorem conversions : Obligations.Conversions := by
  refine ⟨fpCvtDS, fpCvtSD, fpCvtWS, fpCvtWD, fun _ => fpCvtDS_of_normal, fun _ _ => fpCvtSD_of_value,
    fun _ _ => fpCvtWS_of_value, fun _ _ => fpCvtWD_of_value, fun fd fs s hfpu => ?_⟩
  rw [← s.readD_eq_pairValue]
  exact ⟨fun hfd => executes_of_putD rfl hfpu (forall_isEven_one hfd) rfl,
    fun hfs => executes_of_putF rfl hfpu (forall_isEven_one hfs) rfl, executes_of_putF rfl hfpu forall_isEven_nil rfl,
    fun hfs => executes_of_putF rfl hfpu (forall_isEven_one hfs) rfl⟩

/-- Settles O30: both formats have one function of the condition, and each compare is that function at its own. -/
theorem compares : Obligations.Compares := by
  refine ⟨⟨fpCmpS, fun cond _ _ => fpCmpS_of_normal cond, fun cc fs ft s hfpu c hc => ?single⟩,
    fpCmpD, fun cond _ _ => fpCmpD_of_normal cond, fun cc fs ft s hfpu hfs hft c hc => ?double⟩
  case single =>
    have hw := (compareWord_eq 0x10#5 ft fs cc _).trans (congrArg Fields.toWord (encodeFields_singleCompares cc fs ft c hc).symm)
    exact executes_of_putCc hw hfpu forall_isEven_nil (exec_singleCompares cc fs ft s c hc)
  case double =>
    have hw := (compareWord_eq 0x11#5 ft fs cc _).trans (congrArg Fields.toWord (encodeFields_doubleCompares cc fs ft c hc).symm)
    rw [← s.readD_eq_pairValue, ← s.readD_eq_pairValue]
    exact executes_of_putCc hw hfpu (forall_isEven_two hfs hft) (exec_doubleCompares cc fs ft s c hc)

end Sys2Proof.Machine

/-! PROOFS. The instructions that the source names but does not define, and `sync` (spec/49_named_only.md). -/

namespace Sys2Proof.Machine

/-! ### From an instruction's refusal to what its word is refused for -/

/-- The encoding of an instruction that is refused is refused. -/
theorem refuses_of_refused {w : Word} {i : Instr} {s : State} {r : Refusal} (hw : w = encode i)
    (hexec : exec i s = .refused r) : Refuses w i s r :=
  ⟨decode_of_eq_encode hw, hexec⟩

/-! ### The statements -/

/-- Settles O34: the meaning of each of the nine does not look at the state. -/
theorem namedOnlyRefused : Obligations.NamedOnlyRefused := by
  intro rt rs imm s
  exact ⟨refuses_of_refused (iWord_eq ..) rfl, refuses_of_refused (iWord_eq ..) rfl, refuses_of_refused (iWord_eq ..) rfl,
    refuses_of_refused (iWord_eq ..) rfl, refuses_of_refused (iWord_eq ..) rfl, refuses_of_refused (iWord_eq ..) rfl,
    refuses_of_refused (iWord_eq ..) rfl, refuses_of_refused (iWord_eq ..) rfl, refuses_of_refused (iWord_eq ..) rfl⟩

/-- Settles O35: `pref` tests the parameter and nothing else. -/
theorem syncAndPrefetch : Obligations.SyncAndPrefetch := by
  intro rt rs imm s
  refine ⟨executes_of_next rfl rfl s.advance_writesNothing, fun hoff => ?refused, fun hon => ?noOp⟩
  case refused => exact refuses_of_refused (iWord_eq ..) (if_neg (by simp [hoff]))
  case noOp => exact executes_of_next (iWord_eq ..) (if_pos hon) s.advance_writesNothing

end Sys2Proof.Machine

/-! PROOFS. Exceptions, interrupts and modes (spec/60_exceptions.md), and what every step keeps of the host's side
(spec/70_reset_and_hazards.md). The facts are proved once, over the next states of `Effect` (Laws/Exec.lean). -/

namespace Sys2Proof.Machine

section Entries

variable {i : Instr} {s t : State}

/-! ### What an instruction's next state owes to an exception entry -/

/-- An exception entry, from the state before with draws counted: a failing bus check of `sc` comes after its draw (R229, log
entry 15). -/
def EntersAfterDraws (s t : State) : Prop :=
  ∃ (code : BitVec 5) (bad : Option Word) (n : Nat), Entered code bad { s with draws := n } t

theorem State.raise_entersAfterDraws (s : State) (e : Exception) : EntersAfterDraws s (s.raise e) :=
  ⟨e.code, e.badAddr, s.draws, s.raise_entered e⟩

/-- The implementation's say in an `sc` counts a draw and does nothing else (R229). -/
theorem State.scDrawn_eq (s : State) : s.scDrawn = { s with draws := s.scDrawn.draws } := by
  unfold State.scDrawn
  split <;> rfl

theorem State.scDrawn_raise_entersAfterDraws (s : State) (e : Exception) : EntersAfterDraws s (s.scDrawn.raise e) := by
  rw [s.scDrawn_eq]
  exact ⟨e.code, e.badAddr, s.scDrawn.draws, State.raise_entered _ e⟩

/-- Without an exception entry `Cause` and `BadVAddr` are kept (R331). -/
theorem Effect.entersAfterDraws_or_cause_eq (h : Effect i s t) :
    EntersAfterDraws s t ∨ t.cause = s.cause ∧ t.badVAddr = s.badVAddr := by
  cases h with
  | raise e => exact .inl (s.raise_entersAfterDraws e)
  | scRaise _ e => exact .inl (s.scDrawn_raise_entersAfterDraws e)
  | _ => simp

/-- Without an exception entry a user-mode instruction keeps `Status` and `EPC`: `mtc0` and `eret` write them in kernel mode
only (R43, R351). -/
theorem Effect.entersAfterDraws_or_status_eq (h : Effect i s t) (hu : InUserMode s) :
    EntersAfterDraws s t ∨ t.status = s.status ∧ t.epc = s.epc := by
  have huser : s.userMode = true := s.userMode_iff.2 hu
  cases h with
  | raise e => exact .inl (s.raise_entersAfterDraws e)
  | scRaise _ e => exact .inl (s.scDrawn_raise_entersAfterDraws e)
  | cp0 _ _ _ hk | eret _ hk => rw [huser] at hk; cases hk
  | _ => simp

/-- But for `eret` and `mtc0` to `Status`, an instruction keeps `Status` or sets `EL` (R330, R352). -/
theorem Effect.status_cases (h : Effect i s t) :
    t.status = s.status ∨ t.status.el = true ∨ i = .eret ∨ ∃ rt, i = .mtc0 rt 12#5 := by
  cases h with
  | raise | scRaise => simp
  | eret hi => exact .inr (.inr (.inl hi))
  | @cp0 n v rt hi =>
    by_cases hn : n = 12#5
    · subst hn; exact .inr (.inr (.inr ⟨rt, hi⟩))
    · simp [hn]
  | _ => simp

/-- No instruction writes code 0, the interrupt's (R321). -/
theorem Effect.cause_eq_or_code_ne (h : Effect i s t) : t.cause = s.cause ∨ t.cause.excCode ≠ 0#5 := by
  cases h with
  | raise e he | scRaise _ e he => exact .inr he
  | _ => simp

/-- No instruction writes the parameters or the interrupt lines (R341, R374). -/
theorem Effect.host_eq (h : Effect i s t) : t.params = s.params ∧ t.irq = s.irq := by
  cases h <;> simp

end Entries

/-! ### A step -/

/-- A fetch that raises nothing gives the word at `pc` (R57). -/
theorem State.fetch_word {s : State} {w : Word} (h : s.fetch = .ok w) : w = wordAtPc s := by
  rw [s.fetch_eq] at h
  split at h
  · cases h
  · split at h
    · cases h; rfl
    · cases h

/-- With no interrupt takeable, a step is the entry of the fetch's exception, or runs the word at `pc` (R338). -/
theorem step_of_not_takeable {s : State} (ht : ¬Takeable s) :
    (∃ code bad t, (code = 4#5 ∨ code = 6#5) ∧ step s = .next { t with irq := t.irq.tail } ∧ Entered code bad s t) ∨
      step s = linesMoveOn (runWord (wordAtPc s) s) := by
  cases hf : s.fetch with
  | error e =>
    obtain ⟨t, hstep, hentered⟩ := step_of_fetch_error ht hf
    exact .inl ⟨e.code, e.badAddr, t, State.fetch_code hf, hstep, hentered⟩
  | ok w =>
    obtain rfl : w = wordAtPc s := State.fetch_word hf
    exact .inr (step_of_fetch ht hf)

/-! ### The statements -/

/-- Settles O41: what `State.raise_entered` says of every exception, at each of the twelve. -/
theorem exceptionEntry : Obligations.ExceptionEntry := fun s _ =>
  ⟨s.raise_entered .interrupt, s.raise_entered (.addressErrorLoad _), s.raise_entered (.addressErrorStore _),
    s.raise_entered .busErrorFetch, s.raise_entered .busErrorData, s.raise_entered .syscall, s.raise_entered .breakpoint,
    s.raise_entered .reservedInstruction, s.raise_entered .coprocessorUnimplemented, s.raise_entered .overflow,
    s.raise_entered .trap, s.raise_entered .floatingPointException⟩

/-- Settles O42: only the two exception entries of `Effect` write `Cause` or `BadVAddr`. -/
theorem exceptionsArePrecise : Obligations.ExceptionsArePrecise := by
  intro i s t h hchanged
  obtain hentered | ⟨hcause, hbad⟩ := (exec_effect h).entersAfterDraws_or_cause_eq
  · exact hentered
  · exact absurd hchanged (not_or.2 ⟨not_not.2 hcause, not_not.2 hbad⟩)

/-- Settles O44: the step tests for an interrupt before it fetches, and nothing else writes code 0. -/
theorem interruptsAreTaken : Obligations.InterruptsAreTaken := by
  intro s
  refine ⟨fun ht => ⟨s.raise .interrupt, ?_, s.raise_entered .interrupt⟩,
    fun ht => ⟨step_of_not_takeable ht, fun t hstep => ?_⟩⟩
  · rw [step_eq, if_pos ht, linesMoveOn]
  · obtain ⟨u, rfl, ⟨htaken, _⟩ | ⟨_, e, he, rfl⟩ | ⟨_, i, heffect⟩⟩ := step_next hstep
    · exact absurd htaken ht
    · exact .inr he
    · exact heffect.cause_eq_or_code_ne

/-- Settles O48: in user mode all three registers are kept but by an entry, and an entry leads to kernel mode. -/
theorem modeChanges : Obligations.ModeChanges := by
  intro i s t h
  have heffect := exec_effect h
  refine ⟨fun hu => ?_, fun hs ht => ?_⟩
  · obtain hentered | ⟨hcause, _⟩ := heffect.entersAfterDraws_or_cause_eq
    · exact .inr hentered
    · exact (heffect.entersAfterDraws_or_status_eq hu).symm.imp_left fun ⟨hstatus, hepc⟩ => ⟨hstatus, hepc, hcause⟩
  · obtain hkept | hel | hwrites := heffect.status_cases
    · rw [InUserMode, hkept] at ht; exact absurd ht hs
    · exact absurd ht.2 (by simp [hel])
    · exact hwrites

/-- Settles O55: entries and instructions keep the parameters and the lines, which then move on; there is no fault to answer. -/
theorem stepKeepsTheParameters : Obligations.StepKeepsTheParameters := by
  refine fun s => ⟨fun f => (nomatch f), fun t hstep => ?_⟩
  obtain ⟨u, rfl, ⟨_, rfl⟩ | ⟨_, e, _, rfl⟩ | ⟨_, i, heffect⟩⟩ := step_next hstep
  · exact ⟨rfl, rfl⟩
  · exact ⟨rfl, rfl⟩
  · obtain ⟨hparams, hirq⟩ := heffect.host_eq
    exact ⟨hparams, congrArg List.tail hirq⟩

end Sys2Proof.Machine

/-! PROOFS. The two modes (spec/60_exceptions.md R350, R351). Setting `UM` commutes with every operation but the tests of the
mode, which only the privileged instructions and the user-segment check make; an instruction's meaning is made of these. -/

namespace Sys2Proof.Machine

/-- The state with another `UM` bit. -/
def State.withUm (s : State) (b : Bool) : State := { s with status := { s.status with um := b } }

/-- The outcome with another `UM` bit in its next state. -/
def outcomeWithUm (b : Bool) : Result → Result
  | .next s => .next (s.withUm b)
  | .fault r => .fault r
  | .refused r => .refused r

section Modes

variable {s t t' u u' : State} {b : Bool} {c : Prop} [Decidable c]

/-! ### Operations on the state -/

theorem State.ite_withUm (ht : t' = t.withUm b) (hu : u' = u.withUm b) :
    (if c then t' else u') = (if c then t else u).withUm b := by
  rw [ht, hu, ← apply_ite (State.withUm · b)]

theorem State.writeX_withUm (r : Reg) (v : Word) : (s.withUm b).writeX r v = (s.writeX r v).withUm b :=
  State.ite_withUm rfl rfl

theorem State.putX_withUm {r : Reg} {v : Word} (ht : t' = t.withUm b) : t'.putX r v = (t.putX r v).withUm b := by
  subst ht
  exact congrArg State.advance (State.writeX_withUm r v)

theorem State.link_withUm (r : Reg) (v : Word) (taken : Bool) (target : Word) :
    ((s.withUm b).writeX r v).transfer taken target = ((s.writeX r v).transfer taken target).withUm b :=
  congrArg (State.transfer · taken target) (State.writeX_withUm r v)

theorem State.writeD_withUm (n : FReg) (v : DWord) : (s.withUm b).writeD n v = (s.writeD n v).withUm b := by
  have hparams : (s.withUm b).params = s.params := rfl
  unfold State.writeD
  rw [hparams]
  cases s.params.pairOrder <;> rfl

theorem State.putF_withUm (n : FReg) (r : FpResult Word) : (s.withUm b).putF n r = (s.putF n r).withUm b := by
  cases r <;> rfl

theorem State.putD_withUm (n : FReg) (r : FpResult DWord) : (s.withUm b).putD n r = (s.putD n r).withUm b := by
  cases r with
  | value v => exact congrArg State.advance (State.writeD_withUm n v)
  | fpe => rfl

theorem State.putCc_withUm (n : CcNum) (r : FpResult Bool) : (s.withUm b).putCc n r = (s.putCc n r).withUm b := by
  cases r <;> rfl

theorem State.scDrawn_withUm : (s.withUm b).scDrawn = s.scDrawn.withUm b := State.ite_withUm rfl rfl

theorem State.orRaise_withUm {e e' : Option Exception} (he : e' = e) (ht : t' = t.withUm b) :
    (s.withUm b).orRaise e' t' = (s.orRaise e t).withUm b := by
  subst he ht
  cases e' <;> rfl

/-! ### The checks of an access, with the segment check off (R63) -/

theorem State.segmentBarred_of_check_off (h : s.params.userSegmentCheck = false) (a : Word) : s.segmentBarred a = false := by
  rw [State.segmentBarred, h, Bool.false_and, Bool.false_and]

theorem State.addressFault_withUm (h : s.params.userSegmentCheck = false) (k : Access) (n : Nat) (a : Word) :
    (s.withUm b).addressFault k n a = s.addressFault k n a := by
  have hu : (s.withUm b).params.userSegmentCheck = false := h
  rw [State.addressFault, State.addressFault, State.segmentBarred_of_check_off h, State.segmentBarred_of_check_off hu]

theorem State.accessFault_withUm (h : s.params.userSegmentCheck = false) (k : Access) (n : Nat) (a : Word) :
    (s.withUm b).accessFault k n a = s.accessFault k n a := by
  rw [State.accessFault, State.accessFault, State.addressFault_withUm h]; rfl

/-! ### Outcomes -/

theorem outcome_next_withUm (ht : t' = t.withUm b) : (.next t' : Result) = outcomeWithUm b (.next t) :=
  congrArg Host.Outcome.next ht

theorem outcome_ite_withUm {x x' y y' : Result} (hx : x' = outcomeWithUm b x) (hy : y' = outcomeWithUm b y) :
    (if c then x' else y') = outcomeWithUm b (if c then x else y) := by
  rw [hx, hy, ← apply_ite (outcomeWithUm b)]

theorem State.fp_withUm {ds : List FReg} (ht : t' = t.withUm b) : (s.withUm b).fp ds t' = outcomeWithUm b (s.fp ds t) :=
  outcome_ite_withUm (outcome_ite_withUm (outcome_next_withUm ht) rfl) rfl

/-- An instruction that is the checks of an access and then `t` (R225). -/
theorem State.access_withUm {k : Access} {n : Nat} {a : Word} (h : s.params.userSegmentCheck = false) (ht : t' = t.withUm b) :
    (s.withUm b).orRaise ((s.withUm b).accessFault k n a) t' = (s.orRaise (s.accessFault k n a) t).withUm b :=
  State.orRaise_withUm (State.accessFault_withUm h k n a) ht

/-- The meaning of `sc` (R229). -/
theorem execSc_withUm (h : s.params.userSegmentCheck = false) (rt : Reg) (imm : BitVec 16) (rs : Reg) :
    execSc rt imm rs (s.withUm b) = outcomeWithUm b (execSc rt imm rs s) := by
  refine outcome_next_withUm (State.orRaise_withUm (State.addressFault_withUm h _ _ _)
    (State.ite_withUm (State.ite_withUm ?_ ?_) ?_))
  all_goals rw [State.scDrawn_withUm]
  · exact State.putX_withUm rfl
  · rfl
  · exact State.putX_withUm rfl

/-- An instruction outside coprocessor 0, with the segment check off, does not see `UM`. -/
theorem exec_withUm {i : Instr} (hi : i.privileged = false) (h : s.params.userSegmentCheck = false) :
    exec i (s.withUm b) = outcomeWithUm b (exec i s) := by
  cases i with
  | addiu | addu | and | andi | nor | or | ori | sll | srl | sra | subu | xor | xori | sllv | srlv | srav | lui | slt | sltu
  | slti | sltiu | mfhi | mflo => exact outcome_next_withUm (State.putX_withUm rfl)
  | add | addi | sub => exact outcome_next_withUm (State.orRaise_withUm rfl (State.putX_withUm rfl))
  | movz | movn => exact outcome_next_withUm (State.ite_withUm (State.putX_withUm rfl) rfl)
  | bc1f | bc1t => exact outcome_ite_withUm (outcome_ite_withUm rfl rfl) rfl
  | beq | bgez | bgtz | blez | bltz | bne | j | jr => exact outcome_ite_withUm rfl rfl
  | jal => exact outcome_ite_withUm rfl (outcome_next_withUm (State.link_withUm _ _ _ _))
  | bgezal | bltzal | jalr =>
    exact outcome_ite_withUm rfl (outcome_ite_withUm rfl (outcome_next_withUm (State.link_withUm _ _ _ _)))
  | teq | teqi | tne | tnei | tge | tgeu | tlt | tltu => exact outcome_next_withUm (State.orRaise_withUm rfl rfl)
  | syscall | pref => exact outcome_ite_withUm rfl rfl
  | mfc0 | mtc0 | eret => cases hi
  | lb | lbu | lh | lhu | lw | ll => exact outcome_next_withUm (State.access_withUm h (State.putX_withUm rfl))
  | sb | sh | sw => exact outcome_next_withUm (State.access_withUm h rfl)
  | sc => exact execSc_withUm h _ _ _
  | div | divu => exact outcome_next_withUm (State.ite_withUm rfl rfl)
  | lwc1 => exact State.fp_withUm (State.access_withUm h (State.putF_withUm _ _))
  | ldc1 => exact State.fp_withUm (State.access_withUm h (State.putD_withUm _ _))
  | swc1 | sdc1 => exact State.fp_withUm (State.access_withUm h rfl)
  | addS | subS | mulS | divS | sqrtS | absS | movS | negS | roundWS | truncWS | ceilWS | floorWS | cvtWS | roundWD | truncWD
  | ceilWD | floorWD | cvtSD | cvtWD => exact State.fp_withUm (State.putF_withUm _ _)
  | addD | subD | mulD | divD | sqrtD | absD | movD | negD | cvtDS => exact State.fp_withUm (State.putD_withUm _ _)
  | movzS | movnS => exact State.fp_withUm (State.ite_withUm (State.putF_withUm _ _) rfl)
  | movzD | movnD => exact State.fp_withUm (State.ite_withUm (State.putD_withUm _ _) rfl)
  | cFS | cUnS | cEqS | cUeqS | cOltS | cUltS | cOleS | cUleS | cSfS | cNgleS | cSeqS | cNglS | cLtS | cNgeS | cLeS | cNgtS
  | cFD | cUnD | cEqD | cUeqD | cOltD | cUltD | cOleD | cUleD | cSfD | cNgleD | cSeqD | cNglD | cLtD | cNgeD | cLeD
  | cNgtD => exact State.fp_withUm (State.putCc_withUm _ _)
  | brk | mult | multu | mthi | mtlo | lwl | lwr | swl | swr | cache | lwc2 | ldc2 | swc2 | sdc2 | sync => rfl

end Modes

/-- Settles O47: the statement's outcome is `outcomeWithUm`, written out. -/
theorem modesBehaveAlike : Obligations.ModesBehaveAlike := by
  intro i s b hi hcheck
  refine (exec_withUm hi hcheck).trans ?_
  cases exec i s <;> rfl

end Sys2Proof.Machine

/-! PROOFS. Completion (spec/70_reset_and_hazards.md R383). -/

namespace Sys2Proof.Machine

section Completion

variable {i : Instr} {s : State}

/-- A branch on a flag outside a delay slot completes, with the unit or without (R166, R256). -/
theorem State.branchFp_completes (hbd : s.bd = false) (c : Bool) (imm : BitVec 16) : ∃ t, s.branchFp c imm = .next t := by
  cases hfpu : s.params.hasFpu with
  | true => exact ⟨_, (State.branchFp_of_hasFpu hfpu c imm).trans (if_neg (by simp [hbd]))⟩
  | false => exact ⟨_, State.branchFp_of_not_hasFpu hfpu c imm⟩

/-! ### Which instructions complete -/

/-- With its double registers even, an instruction that is the checks of the family completes, with the unit or without (R256,
R257). -/
theorem State.fp_completes {ds : List FReg} (heven : ds.all evenReg = true) (k : State) : ∃ t, s.fp ds k = .next t := by
  cases hfpu : s.params.hasFpu with
  | true => exact ⟨k, State.fp_next hfpu (by simpa [evenReg] using heven) k⟩
  | false => exact ⟨_, State.fp_of_not_hasFpu hfpu ds k⟩

/-- A branch or jump outside a delay slot, the link register not its operand, completes (R30, R188, R190, R213). -/
theorem exec_completes_of_transfersControl (hi : i.transfersControl = true) (hbd : s.bd = false)
    (hclash : i.linkClash = false) : ∃ t, exec i s = .next t := by
  have hslot : ¬s.bd = true := by simp [hbd]
  cases i with
  | bc1f | bc1t => exact State.branchFp_completes hbd _ _
  | beq | bgez | bgtz | blez | bltz | bne | j | jal | jr | eret => exact ⟨_, if_neg hslot⟩
  | bgezal rs | bltzal rs =>
    have hrs : ¬rs = 31#5 := by simpa [Instr.linkClash] using hclash
    exact ⟨_, (if_neg hslot).trans (if_neg hrs)⟩
  | jalr rd rs =>
    have hrd : ¬rd = rs := by simpa [Instr.linkClash] using hclash
    exact ⟨_, (if_neg hslot).trans (if_neg hrd)⟩
  | _ => cases hi

/-- But for its branches, an instruction of the floating-point family is the checks of the family on its double registers
(R256, R257). -/
theorem exec_eq_fp_of_float (hf : i.float = true) (hi : i.transfersControl = false) :
    ∃ k, exec i s = s.fp i.doubleRegs k := by
  cases i with
  | bc1f | bc1t => cases hi
  | _ => cases hf <;> exact ⟨_, rfl⟩

/-- The remaining instructions test nothing that they could be refused for: each is a next state by definition. -/
theorem exec_completes_of_ordinary (hf : i.float = false) (hi : i.transfersControl = false) (hnamed : i.namedOnly = false)
    (hcall : s.params.syscallIsHostCall = true → ∀ code, i ≠ .syscall code) : ∃ t, exec i s = .next t := by
  cases i with
  | syscall code => exact ⟨_, if_neg fun h => hcall h code rfl⟩
  | lwl | lwr | swl | swr | cache | pref | lwc2 | ldc2 | swc2 | sdc2 => cases hnamed
  | bc1f | bc1t | beq | bgez | bgezal | bgtz | blez | bltzal | bltz | bne | j | jal | jr | jalr | eret => cases hi
  | _ => cases hf <;> exact ⟨_, rfl⟩

end Completion

/-! ### The statement -/

/-- Settles O54: a branch or jump needs the delay slot clear and no link clash, a floating-point instruction even registers,
and the others nothing, but for `syscall` and the named-only ones. -/
theorem wellFormedInstructionsComplete : Obligations.WellFormedInstructionsComplete := by
  intro i s hwf hnamed hslot hcall
  obtain ⟨heven, hclash⟩ : i.doubleRegs.all evenReg = true ∧ i.linkClash = false := by simpa [Instr.wellFormed] using hwf
  cases hi : i.transfersControl with
  | true =>
    have hbd : s.bd = false := by
      by_contra hbd
      exact absurd (hslot (by simpa using hbd)) (by simp [hi])
    exact exec_completes_of_transfersControl hi hbd hclash
  | false =>
    cases hf : i.float with
    | true =>
      obtain ⟨k, hexec⟩ := exec_eq_fp_of_float (s := s) hf hi
      exact hexec ▸ State.fp_completes heven k
    | false => exact exec_completes_of_ordinary hf hi hnamed hcall

end Sys2Proof.Machine
